-- ==== Sys2Proof/Word.lean ====
section
/-! DEFINITION. The word types of the block (spec/00_scope.md R7, spec/40_bytecodec.md R90): the byte is the only
addressable unit (R41), and a float32 is its 32-bit pattern and nothing else. -/

namespace Sys2Proof

/-- A byte, bits 7 to 0 (R7). -/
abbrev Byte := BitVec 8

/-- A float32 as the block sees it: the pattern `x[31:0]` (R90). Equality is equality of patterns. -/
abbrev F32 := BitVec 32

/-- A byte sequence, first byte on the wire first (R7). -/
abbrev Bytes := List Byte

end Sys2Proof
end

