-- ==== Sys2Proof/Machine/FloatOrder.lean ====
section
/-! DEFINITION. The one place where a float's value and not its pattern matters (spec/40_bytecodec.md R99): the order of two
float32 patterns, spec/44_commandset.md R153. -/

namespace Sys2Proof

/-- A float32 pattern is a NaN: exponent 255 with a non-zero fraction (R90, G1). -/
def isNaN32 (x : F32) : Bool :=
  decide (x.extractLsb' 23 8 = 0xFF) && decide (x.extractLsb' 0 23 ≠ 0)

/-- A number that orders the patterns that are not NaNs as their real values are ordered: the magnitude field with the sign
bit's sign, so that -0 and +0 are one number and the infinities are the ends (R153, G2). -/
def orderKey32 (x : F32) : Int :=
  if x.getMsbD 0 then -((x.extractLsb' 0 31).toNat : Int) else ((x.extractLsb' 0 31).toNat : Int)

/-- `FLE(a, b)`, "a <= b" on the real values of two patterns; false when either is a NaN (R153). -/
def fle32 (a b : F32) : Bool :=
  !isNaN32 a && !isNaN32 b && decide (orderKey32 a ≤ orderKey32 b)

end Sys2Proof
end

