-- ==== Sys2Proof/Syntax.lean ====
section
/-! DEFINITION. What the block can be asked to do: the operand records, the ONE inductive `Instr` with a constructor for each
row of spec/opcode_table.json, the host operations that have no wire encoding (spec/30_encoding.md R80 says those are no
rows of the table), and the inputs the environment supplies to one step (spec/10_state.md R30 to R32). -/

namespace Sys2Proof

/-- `scale` of a sweep (R12). -/
inductive Scale where
  | linear
  | logarithmic
  deriving DecidableEq, Repr, Inhabited

/-- `excitation` of a sweep (R12). -/
inductive Excitation where
  | voltage
  | current
  deriving DecidableEq, Repr, Inhabited

/-- The operand record `FrequencySweepSpec` (R12). The two integers are naturals because the encoder, not the type,
decides whether they fit (R93, R152). -/
structure SweepSpec where
  startFreq : F32
  stopFreq : F32
  steps : Nat
  scale : Scale
  precision : F32
  amplitude : F32
  excitation : Excitation
  pointDelayUs : Nat
  phaseSync : Bool
  deriving DecidableEq, Repr, Inhabited

/-- `SHAPE`, the declared reply shape of a command (R18). -/
inductive ReplyShape where
  | bytes
  | uint
  | floatList
  | deviceId
  | samples
  deriving DecidableEq, Repr, Inhabited

/-- The register `TS_MODE` (R24); `off` is the value the spec writes `None`. -/
inductive TsMode where
  | unset
  | off
  | ms4
  | us5
  deriving DecidableEq, Repr, Inhabited

/-- The register `CR_MODE` (R25). -/
inductive CrMode where
  | unset
  | absent
  | present
  deriving DecidableEq, Repr, Inhabited

/-- The legal first operand of SET_REPLY_FORMAT (R200), which cannot name `Unset`. -/
inductive TsFormat where
  | off
  | ms4
  | us5
  deriving DecidableEq, Repr, Inhabited

/-- The legal second operand of SET_REPLY_FORMAT (R200). -/
inductive CrFormat where
  | absent
  | present
  deriving DecidableEq, Repr, Inhabited

/-- The generic frame row has direction "both": the host sends such a frame with SEND_RAW, whose third operand is a reply
shape that never reaches the wire (R193), or the device sends it and the frame parser reads it (R105). -/
inductive FrameDir where
  | send (shape : ReplyShape)
  | receive
  deriving DecidableEq, Repr, Inhabited

/-- One constructor per row of spec/opcode_table.json. Host-to-device rows are the commands of R70; `frame` is the generic
row; the device-to-host rows are the system messages of R75 and the sample layouts of R71. -/
inductive Instr where
  /-- R151 -/
  | initSetup
  /-- R152 -/
  | addFreqList (spec : SweepSpec)
  /-- R154 -/
  | startMeas (rep : Nat)
  /-- R155 -/
  | stopMeas
  /-- R156 -/
  | getNumFreq
  /-- R157 -/
  | getFreqPoint (row : Nat)
  /-- R158 -/
  | getFreqList
  /-- R159 -/
  | getDeviceId
  /-- R100, R105, R193 -/
  | frame (dir : FrameDir) (opcode : Byte) (payload : Bytes)
  /-- `18 01 01 18` (R75) -/
  | sysFrameNotAcknowledge
  /-- `18 01 02 18` (R75) -/
  | sysTimeout
  /-- `18 01 04 18` (R75) -/
  | sysWakeUp
  /-- `18 01 11 18` (R75) -/
  | sysTcpSocketValid
  /-- `18 01 81 18` (R75) -/
  | sysNotAcknowledgeNotExecuted
  /-- `18 01 82 18` (R75) -/
  | sysNotAcknowledgeUnrecognized
  /-- `18 01 83 18` (R75) -/
  | sysCommandAcknowledge
  /-- `18 01 84 18` (R75) -/
  | sysSystemReady
  /-- `18 01 90 18` (R75) -/
  | sysOvercurrent
  /-- `18 01 91 18` (R75) -/
  | sysOvervoltage
  /-- `18 01 92 18` (R75) -/
  | sysDataHoldup
  /-- `18 01 code 18` (R63, R134) -/
  | sysGeneric (code : Byte)
  /-- R71, first row -/
  | sampleNoneAbsent (pointId : BitVec 16) (re im : F32)
  /-- R71, second row -/
  | sampleNonePresent (pointId : BitVec 16) (range : Byte) (re im : F32)
  /-- R71, third row -/
  | sampleMs4Absent (pointId : BitVec 16) (time : BitVec 32) (re im : F32)
  /-- R71, fourth row -/
  | sampleMs4Present (pointId : BitVec 16) (time : BitVec 32) (range : Byte) (re im : F32)
  /-- R71, fifth row -/
  | sampleUs5Absent (pointId : BitVec 16) (time : BitVec 40) (re im : F32)
  /-- R71, sixth row -/
  | sampleUs5Present (pointId : BitVec 16) (time : BitVec 40) (range : Byte) (re im : F32)
  deriving DecidableEq, Repr, Inhabited

/-- The host operations that have no wire encoding (R30, the last six less SEND_RAW, which is `Instr.frame (.send _)`). -/
inductive LocalOp where
  /-- R196 -/
  | listen
  /-- R200 -/
  | setReplyFormat (ts : TsFormat) (cr : CrFormat)
  /-- R201 -/
  | setIdleThreshold (n : Nat)
  /-- R202 -/
  | ackAbort
  /-- R203 -/
  | readStatus
  deriving DecidableEq, Repr, Inhabited

/-- The transport's answer to `transport.write` (R31). -/
inductive TxAnswer where
  | ok
  | fail
  deriving DecidableEq, Repr, Inhabited

/-- The transport's answer to `transport.read` (R32). `data []` is no answer of R32; a read that yields no byte is an
`empty` one, and `Machine.transportRead` reads it so. -/
inductive ReadAnswer where
  | data (bs : Bytes)
  | empty
  | fail
  deriving DecidableEq, Repr, Inhabited

/-- What the environment supplies to one step of the block: the host's command port, the transport's answers and the
external reset. The write answer travels with the operation because it "is an input of the step that makes the call" (R31). -/
inductive Input where
  /-- The host presents nothing and no read has returned: the block may take its own step, ACQ_STEP (R190, R199). -/
  | quiet
  /-- The host presents an operation with its operands (R30). -/
  | op (i : Instr) (ans : TxAnswer)
  /-- The host presents an operation in its wire form (R80), with the reply shape SEND_RAW takes. -/
  | host (bs : Bytes) (shape : ReplyShape) (ans : TxAnswer)
  /-- The host presents an operation that has no wire form (R30). -/
  | localOp (o : LocalOp)
  /-- One whole burst of the device, in wire form (R9 "Burst"). -/
  | device (bs : Bytes)
  /-- The transport answers one `transport.read` (R117). -/
  | read (a : ReadAnswer)
  /-- The external reset (R250). -/
  | reset
  deriving DecidableEq, Repr, Inhabited

end Sys2Proof
end

