-- ==== Sys2Proof/Config.lean ====
section
/-! DEFINITION. The parameters of the block (spec/00_scope.md R6), which no operation changes (spec/10_state.md R37), and the
one free value of the model: what the environment does beyond the inputs already laid down. -/

namespace Sys2Proof

/-- `MIXED_BURST` (R6, R106). -/
inductive MixedBurst where
  | strict
  | framesThenMessages
  deriving DecidableEq, Repr, Inhabited

/-- `DEVID_LAYOUT` (R6, R169, R171): where each byte of the identity record lies. The version and the device number are payload
offsets; `middleAt` and `middleSize` give the middle bytes `M`, and the serial number, year and month are offsets in the
groups of `DR(M)` joined. Every byte of the record has a place of its own (D11). -/
structure DevIdLayout where
  versionAt : Nat := 0
  deviceIdHighAt : Nat := 1
  deviceIdLowAt : Nat := 2
  middleAt : Nat := 3
  middleSize : Nat := 4
  serialHighAt : Nat := 0
  serialLowAt : Nat := 1
  yearAt : Nat := 2
  monthAt : Nat := 3
  deriving DecidableEq, Repr, Inhabited

/-! ## The command table -/

/-- The commands of `CMD_TABLE` (R70). -/
inductive Cmd where
  | initSetup
  | addFreqList
  | startMeas
  | stopMeas
  | getNumFreq
  | getFreqPoint
  | getFreqList
  | getDeviceId
  deriving DecidableEq, Repr, Inhabited

/-- The commands in the order of R70. -/
def Cmd.all : List Cmd :=
  [.initSetup, .addFreqList, .startMeas, .stopMeas, .getNumFreq, .getFreqPoint, .getFreqList, .getDeviceId]

/-- A row of `CMD_TABLE` (R70). The reply opcode `EXPECT` is no column of its own: it is "its own opcode" for every command. -/
structure CmdRow where
  opcode : Byte
  /-- the sub-opcode, `none` where the table gives none (R64) -/
  sub : Option Byte
  /-- the constant bytes the `args` column begins with -/
  fixed : Bytes
  /-- the reply `SHAPE` -/
  shape : ReplyShape
  deriving DecidableEq, Repr, Inhabited

/-- `CMD_TABLE`, a parameter (R37, R70, D10); the default of each row is the row R70 writes. -/
structure CmdTable where
  initSetup : CmdRow := ⟨0xB6, some 0x01, [], .bytes⟩
  addFreqList : CmdRow := ⟨0xB6, some 0x03, [], .bytes⟩
  startMeas : CmdRow := ⟨0xB8, some 0x01, [0x00], .samples⟩
  stopMeas : CmdRow := ⟨0xB8, none, [0x00], .samples⟩
  getNumFreq : CmdRow := ⟨0xB7, some 0x01, [], .uint⟩
  getFreqPoint : CmdRow := ⟨0xB7, some 0x02, [], .floatList⟩
  getFreqList : CmdRow := ⟨0xB7, some 0x04, [], .floatList⟩
  getDeviceId : CmdRow := ⟨0xD1, none, [], .deviceId⟩
  deriving DecidableEq, Repr, Inhabited

/-- The row of a command. -/
def CmdTable.row (t : CmdTable) : Cmd → CmdRow
  | .initSetup => t.initSetup
  | .addFreqList => t.addFreqList
  | .startMeas => t.startMeas
  | .stopMeas => t.stopMeas
  | .getNumFreq => t.getNumFreq
  | .getFreqPoint => t.getFreqPoint
  | .getFreqList => t.getFreqList
  | .getDeviceId => t.getDeviceId

/-! ## The message table -/

/-- The eleven names of R75, and `unknown` for a code outside the table (R13). -/
inductive MsgName where
  | frameNotAcknowledge
  | timeout
  | wakeUp
  | tcpSocketValid
  | notAcknowledgeNotExecuted
  | notAcknowledgeUnrecognized
  | commandAcknowledge
  | systemReady
  | overcurrent
  | overvoltage
  | dataHoldup
  | unknown
  deriving DecidableEq, Repr, Inhabited

/-- `MSG_TABLE`, a parameter (R37): the code of each of the eleven messages; the defaults are the codes of R75. -/
structure MsgTable where
  frameNotAcknowledge : Byte := 0x01
  timeout : Byte := 0x02
  wakeUp : Byte := 0x04
  tcpSocketValid : Byte := 0x11
  notAcknowledgeNotExecuted : Byte := 0x81
  notAcknowledgeUnrecognized : Byte := 0x82
  commandAcknowledge : Byte := 0x83
  systemReady : Byte := 0x84
  overcurrent : Byte := 0x90
  overvoltage : Byte := 0x91
  dataHoldup : Byte := 0x92
  deriving DecidableEq, Repr, Inhabited

/-- The codes in the order of R75. -/
def MsgTable.codes (t : MsgTable) : List Byte :=
  [t.frameNotAcknowledge, t.timeout, t.wakeUp, t.tcpSocketValid, t.notAcknowledgeNotExecuted,
    t.notAcknowledgeUnrecognized, t.commandAcknowledge, t.systemReady, t.overcurrent, t.overvoltage, t.dataHoldup]

/-! ## The parameters together -/

/-- The parameters of R6 and the two tables of R37, with the value the spec gives each as default. Every one is an argument of
the step relation (R37): State carries them, so a statement about every state holds for every choice of them. -/
structure Config where
  /-- `RXBUF_MAX`; OPEN, at least 255, 4096 suggested (D23) -/
  rxbufMax : Nat := 4096
  /-- `MIXED_BURST` (D17) -/
  mixedBurst : MixedBurst := .strict
  /-- `QUERY_PAD` (D2) -/
  queryPad : Bool := false
  /-- `INITSETUP_ARGS` (D4) -/
  initSetupArgs : Bytes := [0x01]
  /-- `ROW_WIDTH`, bytes (D9) -/
  rowWidth : Nat := 2
  /-- `SCALE_CODE` of Linear (D6) -/
  scaleLinear : Byte := 0x00
  /-- `SCALE_CODE` of Logarithmic (D6) -/
  scaleLogarithmic : Byte := 0x01
  /-- `EXCITATION_CODE` of Voltage (D6) -/
  excitationVoltage : BitVec 32 := 0
  /-- `EXCITATION_CODE` of Current (D6) -/
  excitationCurrent : BitVec 32 := 1
  /-- `BOOL_CODE` of false (D6) -/
  boolFalse : BitVec 32 := 0
  /-- `BOOL_CODE` of true (D6) -/
  boolTrue : BitVec 32 := 1
  /-- `DEVID_LAYOUT` (D11) -/
  devId : DevIdLayout := {}
  /-- `CMD_TABLE` (R37, R70, D10) -/
  cmdTable : CmdTable := {}
  /-- `MSG_TABLE` (R37, R75) -/
  msgTable : MsgTable := {}
  deriving DecidableEq, Repr, Inhabited

/-- `SCALE_CODE` (R6, R65). -/
def Config.scaleCode (c : Config) : Scale → Byte
  | .linear => c.scaleLinear
  | .logarithmic => c.scaleLogarithmic

/-- `EXCITATION_CODE` (R6, R65). -/
def Config.excitationCode (c : Config) : Excitation → BitVec 32
  | .voltage => c.excitationVoltage
  | .current => c.excitationCurrent

/-- `BOOL_CODE` (R6, R65). -/
def Config.boolCode (c : Config) : Bool → BitVec 32
  | false => c.boolFalse
  | true => c.boolTrue

/-- FREE VALUE (notes/assumptions/2.md): the input the environment supplies at its `n`-th step beyond `State.script`. It has
no body, so nothing can be proved of it: what a host, a device or a transport does there is anything at all, an endless
stream of data included (R123, R261). -/
opaque Config.environment : Nat → Input

end Sys2Proof
end

