-- ==== Sys2Proof/Decode.lean ====
section
/-! DEFINITION. The byte-order helpers (spec/20_memory.md R42), the look-ups in the two tables, the decoder from bytes to the rows of
spec/opcode_table.json, total on any bytes and rejecting by name, and the encoder written from the same tables
(spec/30_encoding.md R60 to R71, R75). -/

namespace Sys2Proof

/-- The number a byte sequence is when its first byte is the most significant (R42, R95). -/
def beNat (bs : Bytes) : Nat :=
  bs.foldl (fun acc b => acc * 256 + b.toNat) 0

/-- The `w` low bytes of `x`, most significant first (R42, R94). -/
def beBytes : Nat → Nat → Bytes
  | 0, _ => []
  | w + 1, x => BitVec.ofNat 8 (x / 256 ^ w) :: beBytes w x

/-- A frame in the format F-FRAME (R60): opcode, length byte, payload, opcode. -/
def envelope (opcode : Byte) (payload : Bytes) : Bytes :=
  opcode :: BitVec.ofNat 8 payload.length :: (payload ++ [opcode])

/-! ## The tables -/

/-- The row of a command in `CMD_TABLE` (R70). -/
def Config.cmdRow (c : Config) (cmd : Cmd) : CmdRow :=
  c.cmdTable.row cmd

/-- How many payload bytes a command's operands and the parameters take after its head (R66 to R69). -/
def Config.operandWidth (c : Config) : Cmd → Nat
  | .initSetup => c.initSetupArgs.length
  | .addFreqList => 36
  | .startMeas => 2
  | .getFreqPoint => c.rowWidth
  | .stopMeas | .getNumFreq | .getFreqList | .getDeviceId => 0

/-- The bytes a command's payload begins with, whatever its operands (R64). -/
def CmdRow.head (r : CmdRow) : Bytes :=
  r.sub.toList ++ r.fixed

/-- `LOOKUP(c)`: the name of a code in `MSG_TABLE`, or `unknown` (R75, R134). -/
def MsgTable.lookup (t : MsgTable) (code : Byte) : MsgName :=
  if code = t.frameNotAcknowledge then .frameNotAcknowledge
  else if code = t.timeout then .timeout
  else if code = t.wakeUp then .wakeUp
  else if code = t.tcpSocketValid then .tcpSocketValid
  else if code = t.notAcknowledgeNotExecuted then .notAcknowledgeNotExecuted
  else if code = t.notAcknowledgeUnrecognized then .notAcknowledgeUnrecognized
  else if code = t.commandAcknowledge then .commandAcknowledge
  else if code = t.systemReady then .systemReady
  else if code = t.overcurrent then .overcurrent
  else if code = t.overvoltage then .overvoltage
  else if code = t.dataHoldup then .dataHoldup
  else .unknown

/-! ## The encoder -/

/-- A command's bytes (R64, R70): its head, then its operand bytes, in a frame; a query without a payload takes QUERY_PAD's
form, which is no F-FRAME (R102). -/
def encodeCommand (c : Config) (cmd : Cmd) (operands : Bytes) : Bytes :=
  let r := c.cmdRow cmd
  if c.queryPad = true ∧ r.head ++ operands = [] then [r.opcode, 0x00, 0x00, r.opcode]
  else envelope r.opcode (r.head ++ operands)

/-- The argument bytes of AddFrequencyList after the sub-opcode, offsets 1 to 36 of R67. -/
def encodeSweep (c : Config) (sp : SweepSpec) : Bytes :=
  beBytes 4 sp.startFreq.toNat ++ (beBytes 4 sp.stopFreq.toNat ++ (beBytes 4 sp.steps
    ++ (beBytes 1 (c.scaleCode sp.scale).toNat
    ++ (beBytes 4 sp.precision.toNat ++ (beBytes 4 sp.amplitude.toNat
    ++ ([0x01] ++ (beBytes 4 sp.pointDelayUs
    ++ ([0x02] ++ (beBytes 4 (c.boolCode sp.phaseSync).toNat
    ++ ([0x03] ++ beBytes 4 (c.excitationCode sp.excitation).toNat))))))))))

/-- A system message's four bytes (R63). -/
def encodeSys (code : Byte) : Bytes :=
  envelope 0x18 [code]

/-- The payload of a measurement sample, fields in the order of R71: `tw` timestamp bytes, then the current-range byte if
there is one. -/
def encodeSample (pointId : BitVec 16) (tw time : Nat) (range : Option Byte) (re im : F32) : Bytes :=
  beBytes 2 pointId.toNat ++ (beBytes tw time ++ (range.toList ++ (beBytes 4 re.toNat ++ beBytes 4 im.toNat)))

/-- The words of an instruction, written from R66 to R71 and R75. Under the default tables it is the frame the row's `encoding`
string gives; on an operand no row can hold it keeps the low bytes. -/
def encode (c : Config) : Instr → Bytes
  | .initSetup => encodeCommand c .initSetup c.initSetupArgs
  | .addFreqList sp => encodeCommand c .addFreqList (encodeSweep c sp)
  | .startMeas rep => encodeCommand c .startMeas [BitVec.ofNat 8 rep, BitVec.ofNat 8 (rep / 256)]
  | .stopMeas => encodeCommand c .stopMeas []
  | .getNumFreq => encodeCommand c .getNumFreq []
  | .getFreqPoint row => encodeCommand c .getFreqPoint (beBytes c.rowWidth row)
  | .getFreqList => encodeCommand c .getFreqList []
  | .getDeviceId => encodeCommand c .getDeviceId []
  | .frame _ opcode payload => envelope opcode payload
  | .sysFrameNotAcknowledge => encodeSys c.msgTable.frameNotAcknowledge
  | .sysTimeout => encodeSys c.msgTable.timeout
  | .sysWakeUp => encodeSys c.msgTable.wakeUp
  | .sysTcpSocketValid => encodeSys c.msgTable.tcpSocketValid
  | .sysNotAcknowledgeNotExecuted => encodeSys c.msgTable.notAcknowledgeNotExecuted
  | .sysNotAcknowledgeUnrecognized => encodeSys c.msgTable.notAcknowledgeUnrecognized
  | .sysCommandAcknowledge => encodeSys c.msgTable.commandAcknowledge
  | .sysSystemReady => encodeSys c.msgTable.systemReady
  | .sysOvercurrent => encodeSys c.msgTable.overcurrent
  | .sysOvervoltage => encodeSys c.msgTable.overvoltage
  | .sysDataHoldup => encodeSys c.msgTable.dataHoldup
  | .sysGeneric code => encodeSys code
  | .sampleNoneAbsent p re im => envelope 0xB8 (encodeSample p 0 0 none re im)
  | .sampleNonePresent p g re im => envelope 0xB8 (encodeSample p 0 0 (some g) re im)
  | .sampleMs4Absent p t re im => envelope 0xB8 (encodeSample p 4 t.toNat none re im)
  | .sampleMs4Present p t g re im => envelope 0xB8 (encodeSample p 4 t.toNat (some g) re im)
  | .sampleUs5Absent p t re im => envelope 0xB8 (encodeSample p 5 t.toNat none re im)
  | .sampleUs5Present p t g re im => envelope 0xB8 (encodeSample p 5 t.toNat (some g) re im)

/-! ## The decoder -/

/-- Why bytes are no item of the table: they are not one F-FRAME (R60). -/
inductive DecodeError where
  /-- fewer than the three envelope bytes -/
  | tooShort
  /-- the length byte is not the number of payload bytes -/
  | lengthMismatch
  /-- the last byte does not repeat the opcode -/
  | trailMismatch
  deriving DecidableEq, Repr

/-- Which of the block's two byte ports the bytes stand on. The direction of a row is a column of the table, and the two
15-byte sample layouts are told apart by TS_MODE and CR_MODE alone (R71), so the port carries what the bytes do not. -/
inductive Port where
  | host (shape : ReplyShape)
  | device (ts : TsMode) (cr : CrMode)
  deriving DecidableEq, Repr

/-- The opcode and payload of one whole F-FRAME (R60, R104). -/
def openEnvelope (bs : Bytes) : Except DecodeError (Byte × Bytes) :=
  match bs with
  | opcode :: len :: rest =>
    if rest = [] then .error .tooShort
    else if rest.length ≠ len.toNat + 1 then .error .lengthMismatch
    else if rest.getLast? ≠ some opcode then .error .trailMismatch
    else .ok (opcode, rest.dropLast)
  | _ => .error .tooShort

/-- The first `w` bytes as a number, and the bytes after them. -/
def takeBE (w : Nat) (bs : Bytes) : Option (Nat × Bytes) :=
  if w ≤ bs.length then some (beNat (bs.take w), bs.drop w) else none

/-- The bytes after a fixed tag byte. -/
def takeTag (tag : Byte) : Bytes → Option Bytes
  | b :: rest => if b = tag then some rest else none
  | [] => none

/-- The scale a code stands for (R65). -/
def scaleOf (c : Config) (code : Nat) : Option Scale :=
  if code = c.scaleLinear.toNat then some .linear
  else if code = c.scaleLogarithmic.toNat then some .logarithmic
  else none

/-- The excitation a code stands for (R65). -/
def excitationOf (c : Config) (code : Nat) : Option Excitation :=
  if code = c.excitationVoltage.toNat then some .voltage
  else if code = c.excitationCurrent.toNat then some .current
  else none

/-- The bool a code stands for (R65). -/
def boolOf (c : Config) (code : Nat) : Option Bool :=
  if code = c.boolFalse.toNat then some false
  else if code = c.boolTrue.toNat then some true
  else none

/-- The operand record of AddFrequencyList, read in the field order of R67. -/
def decodeSweep (c : Config) (args : Bytes) : Option SweepSpec := do
  let (start, r) ← takeBE 4 args
  let (stop, r) ← takeBE 4 r
  let (steps, r) ← takeBE 4 r
  let (scaleCode, r) ← takeBE 1 r
  let (precision, r) ← takeBE 4 r
  let (amplitude, r) ← takeBE 4 r
  let r ← takeTag 0x01 r
  let (delay, r) ← takeBE 4 r
  let r ← takeTag 0x02 r
  let (sync, r) ← takeBE 4 r
  let r ← takeTag 0x03 r
  let (exc, r) ← takeBE 4 r
  let scale ← scaleOf c scaleCode
  let phaseSync ← boolOf c sync
  let excitation ← excitationOf c exc
  if r = [] then
    some { startFreq := BitVec.ofNat 32 start, stopFreq := BitVec.ofNat 32 stop, steps := steps, scale := scale,
           precision := BitVec.ofNat 32 precision, amplitude := BitVec.ofNat 32 amplitude,
           excitation := excitation, pointDelayUs := delay, phaseSync := phaseSync }
  else none

/-- The bytes after a given head. -/
def takeHead : Bytes → Bytes → Option Bytes
  | [], bs => some bs
  | tag :: head, bs => (takeTag tag bs).bind (takeHead head)

/-- The operands a command's bytes after its head hold (R66 to R69). -/
def operandsOf (c : Config) (cmd : Cmd) (args : Bytes) : Option Instr :=
  match cmd with
  | .initSetup => if args = c.initSetupArgs then some .initSetup else none
  | .addFreqList => (decodeSweep c args).map .addFreqList
  | .startMeas =>
    match args with
    | [lo, hi] => some (.startMeas (lo.toNat + 256 * hi.toNat))
    | _ => none
  | .stopMeas => if args = [] then some .stopMeas else none
  | .getNumFreq => if args = [] then some .getNumFreq else none
  | .getFreqPoint => if args.length = c.rowWidth then some (.getFreqPoint (beNat args)) else none
  | .getFreqList => if args = [] then some .getFreqList else none
  | .getDeviceId => if args = [] then some .getDeviceId else none

/-- The bytes of an opcode and a payload read as one command of the catalogue. -/
def commandAs (c : Config) (opcode : Byte) (payload : Bytes) (cmd : Cmd) : Option Instr :=
  if (c.cmdRow cmd).opcode = opcode then (takeHead (c.cmdRow cmd).head payload).bind (operandsOf c cmd) else none

/-- The command of the catalogue (R66 to R70) whose opcode and payload these are. -/
def commandOf (c : Config) (opcode : Byte) (payload : Bytes) : Option Instr :=
  Cmd.all.findSome? (commandAs c opcode payload)

/-- The same for the opcode and payload of an F-FRAME: with QUERY_PAD a command without a payload has another form (R102). -/
def frameCommandOf (c : Config) (opcode : Byte) (payload : Bytes) : Option Instr :=
  if c.queryPad = true ∧ payload = [] then none else commandOf c opcode payload

/-- The command the four bytes of QUERY_PAD's form are (R102). -/
def paddedCommandOf (c : Config) (bs : Bytes) : Option Instr :=
  match bs with
  | [opcode, len, pad, trail] =>
    if c.queryPad = true ∧ len = 0x00 ∧ pad = 0x00 ∧ trail = opcode then commandOf c opcode [] else none
  | _ => none

/-- The system message a code stands for: one of the eleven of `MSG_TABLE` (R75), else the generic row. -/
def sysOf (c : Config) (code : Byte) : Instr :=
  match c.msgTable.lookup code with
  | .frameNotAcknowledge => .sysFrameNotAcknowledge
  | .timeout => .sysTimeout
  | .wakeUp => .sysWakeUp
  | .tcpSocketValid => .sysTcpSocketValid
  | .notAcknowledgeNotExecuted => .sysNotAcknowledgeNotExecuted
  | .notAcknowledgeUnrecognized => .sysNotAcknowledgeUnrecognized
  | .commandAcknowledge => .sysCommandAcknowledge
  | .systemReady => .sysSystemReady
  | .overcurrent => .sysOvercurrent
  | .overvoltage => .sysOvervoltage
  | .dataHoldup => .sysDataHoldup
  | .unknown => .sysGeneric code

/-- The layouts of R71 by timestamp width and current-range width. -/
inductive SampleRow where
  | noneAbsent
  | nonePresent
  | ms4Absent
  | ms4Present
  | us5Absent
  | us5Present
  deriving DecidableEq, Repr

/-- The layout a payload length stands for (R71). The two 15-byte layouts are told apart by the configuration alone; under a
configuration that is neither, the table's first row of that length is read. -/
def sampleRowOf (ts : TsMode) (cr : CrMode) (len : Nat) : Option SampleRow :=
  if len = 10 then some .noneAbsent
  else if len = 11 then some .nonePresent
  else if len = 14 then some .ms4Absent
  else if len = 15 then (if ts = .us5 ∧ cr = .absent then some .us5Absent else some .ms4Present)
  else if len = 16 then some .us5Present
  else none

/-- The sample a payload of opcode 0xB8 holds in a given layout, fields in the order of R71. -/
def sampleAs (row : SampleRow) (p : Bytes) : Option Instr := do
  let (pid, r) ← takeBE 2 p
  let (time, r) ← takeBE (match row with
    | .noneAbsent | .nonePresent => 0
    | .ms4Absent | .ms4Present => 4
    | .us5Absent | .us5Present => 5) r
  let (range, r) ← takeBE (match row with
    | .noneAbsent | .ms4Absent | .us5Absent => 0
    | .nonePresent | .ms4Present | .us5Present => 1) r
  let (re, r) ← takeBE 4 r
  let (im, r) ← takeBE 4 r
  let pointId := BitVec.ofNat 16 pid
  let g := BitVec.ofNat 8 range
  let x := BitVec.ofNat 32 re
  let y := BitVec.ofNat 32 im
  if r = [] then
    some (match row with
      | .noneAbsent => .sampleNoneAbsent pointId x y
      | .nonePresent => .sampleNonePresent pointId g x y
      | .ms4Absent => .sampleMs4Absent pointId (BitVec.ofNat 32 time) x y
      | .ms4Present => .sampleMs4Present pointId (BitVec.ofNat 32 time) g x y
      | .us5Absent => .sampleUs5Absent pointId (BitVec.ofNat 40 time) x y
      | .us5Present => .sampleUs5Present pointId (BitVec.ofNat 40 time) g x y)
  else none

/-- The row a device frame of this opcode and payload is (R71, R75), or none if it is only the generic frame. -/
def deviceRowOf (c : Config) (ts : TsMode) (cr : CrMode) (opcode : Byte) (payload : Bytes) : Option Instr :=
  if opcode = 0x18 then
    match payload with
    | [code] => some (sysOf c code)
    | _ => none
  else if opcode = 0xB8 then (sampleRowOf ts cr payload.length).bind (fun row => sampleAs row payload)
  else none

/-- The decoder: bytes on a port to a row of the table, or the reason they are none. A whole frame that no other row names is
the generic row (R73: any other opcode or sub-opcode is framed and sent as given). With QUERY_PAD a query without a payload
is the one item that is not an F-FRAME (R102). -/
def decode (c : Config) (port : Port) (bs : Bytes) : Except DecodeError Instr :=
  match port with
  | .host shape =>
    match paddedCommandOf c bs with
    | some i => .ok i
    | none => (openEnvelope bs).map fun f => (frameCommandOf c f.1 f.2).getD (.frame (.send shape) f.1 f.2)
  | .device ts cr =>
    (openEnvelope bs).map fun f => (deviceRowOf c ts cr f.1 f.2).getD (.frame .receive f.1 f.2)

/-! ## Words as the opcode table numbers them -/

/-- The bytes of a table word: the table writes each row's `match` as one number whose most significant byte is the first on
the wire (R61). A frame whose bits the table does not all give is filled up with zero bytes to the length its own length
byte declares. -/
def tableBytes (nbits w : Nat) : Bytes :=
  let given := beBytes (nbits / 8) w
  let len := (given.getD 1 0x00).toNat
  given ++ List.replicate (len + 3 - given.length) 0x00

/-- A command of the catalogue, as opposed to the generic frame. -/
def Instr.isCommand : Instr → Bool
  | .initSetup | .addFreqList _ | .startMeas _ | .stopMeas | .getNumFreq | .getFreqPoint _ | .getFreqList | .getDeviceId => true
  | _ => false

/-- A frame the device sends (the table's `direction` column). -/
def Instr.fromDevice : Instr → Bool
  | .initSetup | .addFreqList _ | .startMeas _ | .stopMeas | .getNumFreq | .getFreqPoint _ | .getFreqList | .getDeviceId => false
  | .frame (.send _) _ _ => false
  | _ => true

/-- The row a table word stands for when no port is named: a command of the catalogue first, then a system message or a
sample, and last the generic frame, which the table gives to SEND_RAW. -/
def decodeRow (c : Config) (ts : TsMode) (cr : CrMode) (bs : Bytes) : Option Instr :=
  match decode c (.host .bytes) bs with
  | .error _ => none
  | .ok i =>
    if i.isCommand then some i
    else match decode c (.device ts cr) bs with
      | .ok (.frame .receive _ _) => some i
      | .ok j => some j
      | .error _ => some i

/-- The instruction the decoder reads from a table word, under the spec's default parameters and the reset value of the two
format registers. -/
def decodeTableWord (nbits w : Nat) : Option Instr :=
  decodeRow {} .unset .unset (tableBytes nbits w)

end Sys2Proof
end

