-- ==== Sys2Proof/Machine/State.lean ====
section
/-! DEFINITION. The state of the block (spec/10_state.md R38), its result records (R13, R33), the reasons a step can stop, and
the state after reset (spec/70_reset_and_hazards.md R250). -/

namespace Sys2Proof.Machine

/-- `PHASE` (R15). -/
inductive Phase where
  | ready
  | collect
  deriving DecidableEq, Repr, Inhabited

/-- `CYCLE_KIND` (R16). -/
inductive CycleKind where
  | command
  | startCommand
  | acquisition
  | listen
  deriving DecidableEq, Repr, Inhabited

/-- `CL_STATE`, the four named states of the scan (R22). -/
inductive ClState where
  | seeking
  | inLength
  | inMessage
  | done
  deriving DecidableEq, Repr, Inhabited

/-- A classified message, the pair `(code, name)` (R13). -/
structure SysMsg where
  code : Byte
  name : MsgName
  deriving DecidableEq, Repr, Inhabited

/-- The scratch state of the classifier (R22). -/
structure Scratch where
  /-- `CL_STATE` -/
  state : ClState
  /-- `CL_CODE` -/
  code : Option Byte
  /-- `CL_ENTERED` -/
  entered : Bool
  /-- `CL_MSGS` -/
  msgs : List SysMsg
  /-- `pos` -/
  pos : Nat
  /-- `CL_STATE_AT_END`, the state just before the end-of-buffer rule, kept for diagnosis (R136, R234) -/
  atEnd : ClState
  deriving DecidableEq, Repr, Inhabited

/-- The scan-initial values of R22. -/
def Scratch.initial : Scratch :=
  { state := .seeking, code := none, entered := false, msgs := [], pos := 0, atEnd := .seeking }

/-- The error kinds of R215. -/
inductive ErrorKind where
  | malformedFrame
  | timeout
  | unrecognizedCommand
  | notExecuted
  | overcurrent
  | overvoltage
  | dataHoldup
  | incompleteMultiFrameReply
  | payloadTooLarge
  | payloadOutOfRange
  | transportError
  deriving DecidableEq, Repr, Inhabited

/-- The sub-causes of R215. -/
inductive ErrInfo where
  | fieldShort
  | truncated
  | trailMismatch
  | trailingBytes
  | overflow
  | partialSysMsg
  | leadMismatch
  | unknownSysCode (code : Byte)
  | deviceFrameNack
  | sampleLength
  | formatUnset
  | noReply
  | deviceTimeout
  | deviceNack
  | deviceFault
  | size (n : Nat)
  | range (x w : Nat)
  | steps
  | logRange
  | write
  | read
  deriving DecidableEq, Repr, Inhabited

/-- An error with its sub-cause, the element of `ERROR_OUT` (R35, R225). -/
structure Raised where
  kind : ErrorKind
  info : ErrInfo
  deriving DecidableEq, Repr, Inhabited

/-- The reasons of a refusal by the block (R217). -/
inductive RefuseReason where
  | busy
  | abortPending
  | acqActive
  | badValue
  | reservedOpcode
  | badWidth
  deriving DecidableEq, Repr, Inhabited

/-- How an encoder ends without a frame: it declines, or it raises (R8). -/
inductive EncStop where
  | refuse (r : RefuseReason)
  | raise (e : Raised)
  deriving DecidableEq, Repr, Inhabited

/-- `MeasurementSample` (R13). The timestamp is the decoded number seen as 40 bits; its unit is the mode's (R183). -/
structure Sample where
  pointId : BitVec 16
  timestamp : Option (BitVec 40)
  currentRange : Option Byte
  re : F32
  im : F32
  deriving DecidableEq, Repr, Inhabited

/-- `DeviceIdentity` (R13). -/
structure DeviceIdentity where
  infoVersion : Byte
  deviceId : BitVec 16
  serialNumber : BitVec 16
  deliveryYearOffset : Byte
  deliveryMonth : Byte
  deriving DecidableEq, Repr, Inhabited

/-- The value of a decoded reply, by shape (R33). -/
inductive ReplyValue where
  | bytes (bs : Bytes)
  | uint (n : Nat)
  | floatList (fs : List F32)
  | deviceId (rec : DeviceIdentity)
  | samples (ss : List Sample)
  deriving DecidableEq, Repr, Inhabited

/-- `LAST_ERR` (R28): a code of R215, 0 for none, and its sub-cause. -/
structure LastErr where
  code : Fin 12
  info : Option ErrInfo
  deriving DecidableEq, Repr, Inhabited

/-- The record `Outcome` of R33, an element of `RESULT_OUT` (named apart from the three outcomes of a step). -/
inductive Report where
  | ack (msgs : List SysMsg)
  | data (value : ReplyValue) (msgs : List SysMsg)
  | notice (msgs : List SysMsg)
  | rawUnclassified (bs : Bytes)
  | nothing
  | fail (err : ErrorKind) (info : ErrInfo) (msgs : List SysMsg)
  | refused (reason : RefuseReason)
  | done
  | status (acqActive abortPending : Bool) (lastErr : LastErr) (idleThreshold : Nat) (ts : TsMode) (cr : CrMode)
  deriving DecidableEq, Repr, Inhabited

/-- The state of the block and, below the line, what the model carries of its environment. -/
structure State where
  /-- the parameters of R6; no operation writes them (R37) -/
  cfg : Config
  /-- `PHASE` (R15) -/
  phase : Phase
  /-- `CYCLE_KIND` (R16) -/
  cycleKind : CycleKind
  /-- `EXPECT` (R17) -/
  expect : Option Byte
  /-- `SHAPE` (R18) -/
  shape : ReplyShape
  /-- `RXBUF` (R19) -/
  rxbuf : Bytes
  /-- `IDLE_CNT` (R20) -/
  idleCnt : Nat
  /-- `OVERFLOW` (R21) -/
  overflow : Bool
  /-- `CL_STATE`, `CL_CODE`, `CL_ENTERED`, `CL_MSGS`, `pos` (R22) -/
  cl : Scratch
  /-- `IDLE_THRESHOLD` (R23) -/
  idleThreshold : Nat
  /-- `TS_MODE` (R24) -/
  tsMode : TsMode
  /-- `CR_MODE` (R25) -/
  crMode : CrMode
  /-- `ACQ_ACTIVE` (R26) -/
  acqActive : Bool
  /-- `ABORT_PENDING` (R27) -/
  abortPending : Bool
  /-- `LAST_ERR` (R28) -/
  lastErr : LastErr
  /-- `RESULT_OUT` (R33) -/
  resultOut : List Report
  /-- `SAMPLE_OUT` (R34) -/
  sampleOut : List Sample
  /-- `ERROR_OUT` (R35) -/
  errorOut : List Raised
  /-- `TX_OUT` (R36) -/
  txOut : List Bytes
  /-- environment: bytes the transport holds that no read has returned, the hidden state of R39 (a) -/
  waiting : Bytes
  /-- environment: the answer `transport.write` gives in this step (R31) -/
  txAnswer : TxAnswer
  /-- environment: the inputs already laid down for the coming steps -/
  script : List Input
  /-- environment: how many inputs were taken beyond the script, the argument of the free value `Config.environment` -/
  envIdx : Nat
  deriving DecidableEq, Repr, Inhabited

/-- A step never faults. No rule of the spec stops the block: every error is an outcome delivered on the streams, after which
the block takes its next step (R225, R226: "no state in which an error cannot be delivered"). Having no constructor is safe. -/
inductive Fault where
  deriving DecidableEq, Repr

/-- Why a step has no next state. -/
inductive Refusal where
  /-- Raised by `exec` for an instruction without a meaning; no arm raises it. Safe. -/
  | notModelled (mnemonic : String)
  /-- Raised by `step` when bytes laid on the host's command port in wire form are no frame (R60), so that they present no host
  operation of R30. Safe. -/
  | notAnOperation (why : DecodeError)
  deriving DecidableEq, Repr

/-- The state after reset (R250, R38); the last four fields are the model's own (notes/assumptions/2.md to 4.md). -/
def State.reset : State :=
  { cfg := {}
    phase := .ready
    cycleKind := .listen
    expect := none
    shape := .bytes
    rxbuf := []
    idleCnt := 0
    overflow := false
    cl := Scratch.initial
    idleThreshold := 1
    tsMode := .unset
    crMode := .unset
    acqActive := false
    abortPending := false
    lastErr := { code := 0, info := none }
    resultOut := []
    sampleOut := []
    errorOut := []
    txOut := []
    waiting := []
    txAnswer := .ok
    script := []
    envIdx := 0 }

end Sys2Proof.Machine
end

