-- ==== Sys2Proof/Machine/Tables.lean ====
section
/-! DEFINITION. The constants of the block (spec/00_scope.md R6), the message classes (spec/60_exceptions.md R218), the error codes
(R215) and the pseudo-operations (spec/30_encoding.md R79). The command table and the message table are parameters and
stand in Config.lean. -/

namespace Sys2Proof.Machine

/-- `MAX_PAYLOAD` (R6). -/
def maxPayload : Nat := 252

/-- `SYS_OPCODE`, the framing token of every system message (R6, R63). -/
def sysOpcode : Byte := 0x18

/-- `SYS_LENGTH`, the length byte of every system message (R6, R63). -/
def sysLength : Byte := 0x01

/-- `IDLE_MAX` (R6, R23). -/
def idleMax : Nat := 255

/-- The opcode of measurement-sample frames (R71, R73). -/
def sampleOpcode : Byte := 0xB8

/-- The kind of the cycle a command starts (R192). -/
def cycleKindOf : Cmd → CycleKind
  | .startMeas => .startCommand
  | .initSetup | .addFreqList | .stopMeas | .getNumFreq | .getFreqPoint | .getFreqList | .getDeviceId => .command

/-- The numeric codes of the error kinds; 0 is "none" (R215). -/
def ErrorKind.code : ErrorKind → Fin 12
  | .malformedFrame => 1
  | .timeout => 2
  | .unrecognizedCommand => 3
  | .notExecuted => 4
  | .overcurrent => 5
  | .overvoltage => 6
  | .dataHoldup => 7
  | .incompleteMultiFrameReply => 8
  | .payloadTooLarge => 9
  | .payloadOutOfRange => 10
  | .transportError => 11

/-- The error a fatal message is (R142 item 1, R218 class "fatal"). -/
def fatalError : MsgName → Option Raised
  | .overcurrent => some { kind := .overcurrent, info := .deviceFault }
  | .overvoltage => some { kind := .overvoltage, info := .deviceFault }
  | .dataHoldup => some { kind := .dataHoldup, info := .deviceFault }
  | _ => none

/-- The error a rejecting message is (R142 item 3, R218 class "nack"). -/
def nackError : MsgName → Option Raised
  | .frameNotAcknowledge => some { kind := .malformedFrame, info := .deviceFrameNack }
  | .timeout => some { kind := .timeout, info := .deviceTimeout }
  | .notAcknowledgeNotExecuted => some { kind := .notExecuted, info := .deviceNack }
  | .notAcknowledgeUnrecognized => some { kind := .unrecognizedCommand, info := .deviceNack }
  | _ => none

/-- The error a completed message with a code outside the table is (R142 item 2). -/
def unknownError (m : SysMsg) : Option Raised :=
  if m.name = .unknown then some { kind := .malformedFrame, info := .unknownSysCode m.code } else none

/-- The device faults, which end the measurement session (R197). -/
def ErrorKind.isFatal : ErrorKind → Bool
  | .overcurrent | .overvoltage | .dataHoldup => true
  | .malformedFrame | .timeout | .unrecognizedCommand | .notExecuted | .incompleteMultiFrameReply | .payloadTooLarge
  | .payloadOutOfRange | .transportError => false

/-- What SET_REPLY_FORMAT writes into `TS_MODE` (R200). -/
def tsModeOf : TsFormat → TsMode
  | .off => .off
  | .ms4 => .ms4
  | .us5 => .us5

/-- What SET_REPLY_FORMAT writes into `CR_MODE` (R200). -/
def crModeOf : CrFormat → CrMode
  | .absent => .absent
  | .present => .present

/-- The two sub-opcodes GET_SETUP takes (R79). -/
inductive SetupQuery where
  | numFreq
  | freqList
  deriving DecidableEq, Repr, Inhabited

/-- The pseudo-operations of R79, other names for items of the table. -/
inductive PseudoOp where
  | query (opcode : Byte)
  | stopMeas
  | startContinuous
  | getSetup (sub : SetupQuery)
  deriving DecidableEq, Repr, Inhabited

/-- The expansion of a pseudo-operation (R79); the block is presented its result. -/
def PseudoOp.expand : PseudoOp → Instr
  | .query opcode => .frame (.send .bytes) opcode []
  | .stopMeas => .stopMeas
  | .startContinuous => .startMeas 0
  | .getSetup .numFreq => .getNumFreq
  | .getSetup .freqList => .getFreqList

end Sys2Proof.Machine
end

