-- ==== Sys2Proof/Machine/Operands.lean ====
section
/-! DEFINITION. ByteCodec (spec/40_bytecodec.md): the numeric field types of frame payloads to and from bytes. All are pure;
they return a value, raise, or decline (R8). -/

namespace Sys2Proof.Machine

/-- `MalformedFrame(FieldShort)` (R91, R95, R96). -/
def fieldShort : Raised := { kind := .malformedFrame, info := .fieldShort }

/-- `PayloadOutOfRange((x, w))` (R94, R97). -/
def outOfRange (x w : Nat) : EncStop := .raise { kind := .payloadOutOfRange, info := .range x w }

/-- `ENC_F32` (R92): the four bytes of the pattern, `x[31:24]` first. Inverse to `decF32` (R98). -/
def encF32 (x : F32) : Bytes :=
  [x.extractLsb' 24 8, x.extractLsb' 16 8, x.extractLsb' 8 8, x.extractLsb' 0 8]

/-- `DEC_F32` (R91): the first four bytes; later ones are ignored. Inverse to `encF32` on four bytes (R98). -/
def decF32 (bs : Bytes) : Except Raised F32 :=
  if bs.length < 4 then .error fieldShort else .ok (BitVec.ofNat 32 (beNat (bs.take 4)))

/-- `ENC_UINT` (R94). Inverse to `decUint` on its widths (R98). -/
def encUint (x w : Nat) : Except EncStop Bytes :=
  if w = 1 ∨ w = 2 ∨ w = 4 then
    if x < 256 ^ w then .ok (beBytes w x) else .error (outOfRange x w)
  else .error (.refuse .badWidth)

/-- `DEC_UINT` (R95). Inverse to `encUint` on its widths (R98). -/
def decUint (bs : Bytes) : Except Raised Nat :=
  if bs.length = 1 ∨ bs.length = 2 ∨ bs.length = 4 then .ok (beNat bs) else .error fieldShort

/-- `DEC_U40` (R96). -/
def decU40 (bs : Bytes) : Except Raised Nat :=
  if bs.length = 5 then .ok (beNat bs) else .error fieldShort

/-- `ENC_U16LE` (R97): the one field sent low byte first (R42, C12). -/
def encU16le (x : Nat) : Except EncStop Bytes :=
  if x < 65536 then .ok [BitVec.ofNat 8 x, BitVec.ofNat 8 (x / 256)] else .error (outOfRange x 2)

/-- The checks on a sweep before it is encoded, in the order of R153. -/
def checkSweep (sp : SweepSpec) : Except EncStop Unit :=
  if sp.steps < 1 then .error (.raise { kind := .payloadOutOfRange, info := .steps })
  else if sp.scale = .logarithmic ∧ fle32 sp.startFreq sp.stopFreq = false then
    .error (.raise { kind := .payloadOutOfRange, info := .logRange })
  else .ok ()

end Sys2Proof.Machine
end

