-- ==== Sys2Proof/Machine/Frames.lean ====
section
/-! DEFINITION. FrameBuilder and the frame parser (spec/41_framebuilder.md R100 to R108), and the frames of the commands
(spec/44_commandset.md R150 to R159). All are pure. -/

namespace Sys2Proof.Machine

/-- `BUILD` (R100). -/
def build (opcode : Byte) (payload : Bytes) : Except EncStop Bytes :=
  if maxPayload < payload.length then
    .error (.raise { kind := .payloadTooLarge, info := .size payload.length })
  else .ok ([opcode, BitVec.ofNat 8 payload.length] ++ payload ++ [opcode])

/-- `FRAME_OK` (R104). -/
def frameOk (b : Bytes) (e : Byte) : Bool :=
  decide (3 ≤ b.length) && decide (b[0]? = some e) && decide (b[b.length - 1]? = some e)
    && decide ((b[1]?.map BitVec.toNat) = some (b.length - 3))

/-- The result of the parser: the payloads and the unparsed tail, or an error (R105). -/
inductive Parsed where
  | ok (frames : List Bytes) (rest : Bytes)
  | err (e : Raised)
  deriving DecidableEq, Repr

/-- `incomplete(frames, info)` of R105. -/
def incomplete (frames : List Bytes) (info : ErrInfo) : Parsed :=
  if frames = [] then .err { kind := .malformedFrame, info := info }
  else .err { kind := .incompleteMultiFrameReply, info := info }

/-- The walk of R105 from the bytes not yet parsed, `frames` being those already found. Every frame takes at least three
bytes, so a count of steps as large as the buffer never runs out. -/
def parseFrom (e : Byte) : Nat → List Bytes → Bytes → Parsed
  | _, frames, [] => .ok frames []
  | fuel, frames, b :: tail =>
    if b ≠ e then .ok frames (b :: tail)
    else
      match tail with
      | [] => incomplete frames .truncated
      | len :: body =>
        if body.length ≤ len.toNat then incomplete frames .truncated
        else if body[len.toNat]? ≠ some e then incomplete frames .trailMismatch
        else
          match fuel with
          | 0 => .ok frames (b :: len :: body)
          | n + 1 => parseFrom e n (frames ++ [body.take len.toNat]) (body.drop (len.toNat + 1))

/-- `PARSE_FRAMES` (R105). -/
def parseFrames (b : Bytes) (e : Byte) : Parsed :=
  parseFrom e b.length [] b

/-- `CONCAT` (R108). -/
def concatFrames (frames : List Bytes) : Bytes :=
  frames.flatten

/-! ## The frames of the commands -/

/-- A command's frame from its row of `CMD_TABLE` and its operand bytes (R64, R70, R150); a query without a payload takes the
form QUERY_PAD gives it, which no call of BUILD makes (R102). -/
def buildCommand (c : Config) (cmd : Cmd) (operands : Bytes) : Except EncStop Bytes :=
  let r := c.cmdRow cmd
  if c.queryPad = true ∧ r.head ++ operands = [] then .ok [r.opcode, 0x00, 0x00, r.opcode]
  else build r.opcode (r.head ++ operands)

/-- `FRAME(INIT_SETUP)` (R151). -/
def frameInitSetup (c : Config) : Except EncStop Bytes :=
  buildCommand c .initSetup c.initSetupArgs

/-- The operand bytes of AddFrequencyList, fields in the order of R152; the integers are checked in that order (R220 item
2). -/
def sweepOperands (c : Config) (sp : SweepSpec) : Except EncStop Bytes := do
  let steps ← encUint sp.steps 4
  let scale ← encUint (c.scaleCode sp.scale).toNat 1
  let delay ← encUint sp.pointDelayUs 4
  let sync ← encUint (c.boolCode sp.phaseSync).toNat 4
  let exc ← encUint (c.excitationCode sp.excitation).toNat 4
  return encF32 sp.startFreq ++ encF32 sp.stopFreq ++ steps ++ scale ++ encF32 sp.precision
    ++ encF32 sp.amplitude ++ [0x01] ++ delay ++ [0x02] ++ sync ++ [0x03] ++ exc

/-- `FRAME(ADD_FREQ_LIST(spec))` (R152). -/
def frameAddFreqList (c : Config) (sp : SweepSpec) : Except EncStop Bytes := do
  checkSweep sp
  let operands ← sweepOperands c sp
  buildCommand c .addFreqList operands

/-- `FRAME(START_MEAS(repeat))` (R154). -/
def frameStartMeas (c : Config) (rep : Nat) : Except EncStop Bytes := do
  let count ← encU16le rep
  buildCommand c .startMeas count

/-- `FRAME(STOP_MEAS)` (R155). -/
def frameStopMeas (c : Config) : Except EncStop Bytes :=
  buildCommand c .stopMeas []

/-- `FRAME(GET_NUM_FREQ)` (R156). -/
def frameGetNumFreq (c : Config) : Except EncStop Bytes :=
  buildCommand c .getNumFreq []

/-- `FRAME(GET_FREQ_POINT(row))` (R157). -/
def frameGetFreqPoint (c : Config) (row : Nat) : Except EncStop Bytes := do
  let r ← encUint row c.rowWidth
  buildCommand c .getFreqPoint r

/-- `FRAME(GET_FREQ_LIST)` (R158). -/
def frameGetFreqList (c : Config) : Except EncStop Bytes :=
  buildCommand c .getFreqList []

/-- `FRAME(GET_DEVICE_ID)` (R159). -/
def frameGetDeviceId (c : Config) : Except EncStop Bytes :=
  buildCommand c .getDeviceId []

end Sys2Proof.Machine
end

