-- ==== Sys2Proof/Machine/Replies.lean ====
section
/-! DEFINITION. The reply decoders (spec/44_commandset.md R165 to R172) and MeasurementDecoder (spec/45_measurement.md R180).
All are pure. -/

namespace Sys2Proof.Machine

/-- The bytes `lo` to `hi - 1` of a sequence, `s[lo..hi)` (R7). -/
def slice (bs : Bytes) (lo hi : Nat) : Bytes :=
  (bs.take hi).drop lo

/-- Shape `UInt` (R167). -/
def decodeUint (p : Bytes) : Except Raised ReplyValue :=
  (decUint p).map .uint

/-- The float32 patterns of a payload whose size is a multiple of 4 (R168); a rest of 1 to 3 bytes is a short field. -/
def decodeFloats : Bytes → Except Raised (List F32)
  | [] => .ok []
  | a :: b :: c :: d :: rest => do
    let x ← decF32 [a, b, c, d]
    let xs ← decodeFloats rest
    return x :: xs
  | _ => .error fieldShort

/-- Shape `FloatList` (R168). -/
def decodeFloatList (p : Bytes) : Except Raised ReplyValue :=
  (decodeFloats p).map .floatList

/-- Groups of two from the left, the last of one byte if the size is odd (R170). -/
def pairGroups : Bytes → List Bytes
  | a :: b :: rest => [a, b] :: pairGroups rest
  | [a] => [[a]]
  | [] => []

/-- `DR`, the double reversal (R170). -/
def doubleReversal (m : Bytes) : List Bytes :=
  (pairGroups m.reverse).reverse

/-- The payload size the identity needs under a layout; 7 under the default (R169). -/
def layoutNeed (l : DevIdLayout) : Nat :=
  max (max (l.versionAt + 1) (l.middleAt + l.middleSize)) (max (l.deviceIdHighAt + 1) (l.deviceIdLowAt + 1))

/-- The byte at an index, or a short field (R8, R169). -/
def byteAt (bs : Bytes) (i : Nat) : Except Raised Byte :=
  match bs[i]? with
  | some b => .ok b
  | none => .error fieldShort

/-- Shape `DeviceId` (R169, R171): every field from the places the layout gives its bytes, the serial number and the date
through the double reversal of the middle bytes. -/
def decodeDeviceId (l : DevIdLayout) (p : Bytes) : Except Raised ReplyValue :=
  if p.length < layoutNeed l then .error fieldShort
  else do
    let version ← byteAt p l.versionAt
    let idHigh ← byteAt p l.deviceIdHighAt
    let idLow ← byteAt p l.deviceIdLowAt
    let id ← decUint [idHigh, idLow]
    let g := (doubleReversal (slice p l.middleAt (l.middleAt + l.middleSize))).flatten
    let serialHigh ← byteAt g l.serialHighAt
    let serialLow ← byteAt g l.serialLowAt
    let year ← byteAt g l.yearAt
    let month ← byteAt g l.monthAt
    return .deviceId { infoVersion := version, deviceId := BitVec.ofNat 16 id,
                       serialNumber := BitVec.ofNat 16 (serialHigh.toNat * 256 + serialLow.toNat),
                       deliveryYearOffset := year, deliveryMonth := month }

/-- The timestamp width `tw` of a mode (R180). -/
def tsWidth : TsMode → Nat
  | .unset => 0
  | .off => 0
  | .ms4 => 4
  | .us5 => 5

/-- The current-range width `cw` of a mode (R180). -/
def crWidth : CrMode → Nat
  | .unset => 0
  | .absent => 0
  | .present => 1

/-- `DECODE_SAMPLE` (R180). -/
def decodeSample (p : Bytes) (ts : TsMode) (cr : CrMode) : Except Raised Sample :=
  if ts = .unset ∨ cr = .unset then .error { kind := .malformedFrame, info := .formatUnset }
  else
    let tw := tsWidth ts
    let cw := crWidth cr
    if p.length ≠ 2 + tw + cw + 8 then .error { kind := .malformedFrame, info := .sampleLength }
    else do
      let pointId ← decUint (slice p 0 2)
      let timestamp ← match ts with
        | .ms4 => (decUint (slice p 2 6)).map (fun t => some (BitVec.ofNat 40 t))
        | .us5 => (decU40 (slice p 2 7)).map (fun t => some (BitVec.ofNat 40 t))
        | .off | .unset => .ok none
      let range := if cw = 0 then none else some (p.getD (2 + tw) 0)
      let o := 2 + tw + cw
      let re ← decF32 (slice p o (o + 4))
      let im ← decF32 (slice p (o + 4) (o + 8))
      return { pointId := BitVec.ofNat 16 pointId, timestamp := timestamp, currentRange := range, re := re, im := im }

/-- `DECODE_SAMPLES` (R198): the samples decoded before the first failure, which are emitted whatever follows, and that
failure if there is one. -/
def decodeSamples (ts : TsMode) (cr : CrMode) : List Bytes → List Sample × Option Raised
  | [] => ([], none)
  | p :: rest =>
    match decodeSample p ts cr with
    | .error e => ([], some e)
    | .ok s =>
      let r := decodeSamples ts cr rest
      (s :: r.1, r.2)

/-- `ENC_SAMPLE` of R184, the device's side of `decodeSample`; the block never encodes a sample. -/
def encSample (s : Sample) : TsMode → Bytes
  | .ms4 => encodeSample s.pointId 4 ((s.timestamp.map BitVec.toNat).getD 0) s.currentRange s.re s.im
  | .us5 => encodeSample s.pointId 5 ((s.timestamp.map BitVec.toNat).getD 0) s.currentRange s.re s.im
  | .off | .unset => encodeSample s.pointId 0 0 s.currentRange s.re s.im

end Sys2Proof.Machine
end

