-- ==== Sys2Proof/Machine/Classifier.lean ====
section
/-! DEFINITION. ResponseClassifier (spec/43_classifier.md): the scan for system messages, the reduction of messages to one
outcome, and the dispatch between the scan and the frame parser. All are pure; `Machine/Ops.lean` writes what they return. -/

namespace Sys2Proof.Machine

/-- One byte of the scan, by the table of R135, under a message table. -/
def scanByte (t : MsgTable) (c : Scratch) (b : Byte) : Scratch :=
  match c.state, c.code with
  | .seeking, _ =>
    if b = sysOpcode then { c with state := .inLength, entered := true, pos := c.pos + 1 }
    else { c with pos := c.pos + 1 }
  | .inLength, _ =>
    if b = sysLength then { c with state := .inMessage, code := none, pos := c.pos + 1 }
    else { c with state := .seeking, pos := c.pos + 1 }
  | .inMessage, none => { c with code := some b, pos := c.pos + 1 }
  | .inMessage, some code =>
    if b = sysOpcode then
      { c with state := .seeking, code := none, msgs := c.msgs ++ [{ code := code, name := t.lookup code }],
               pos := c.pos + 1 }
    else { c with pos := c.pos + 1 }
  | .done, _ => c

/-- `SCAN` (R130, R136): the scratch state after the last byte, in state `Done`. -/
def scan (t : MsgTable) (b : Bytes) : Scratch :=
  let c := b.foldl (scanByte t) Scratch.initial
  { c with state := .done, atEnd := c.state }

/-- The verdict of a scan (R136). -/
inductive Verdict where
  | messages (msgs : List SysMsg)
  | malformed
  | raw
  deriving DecidableEq, Repr

/-- The verdict a finished scan gives (R136). -/
def Scratch.verdict (c : Scratch) : Verdict :=
  if c.msgs ≠ [] then .messages c.msgs
  else if c.entered then .malformed
  else .raw

/-- `EVALUATE` (R142): the first condition that holds decides, the first message in arrival order within it. -/
def evaluate (msgs : List SysMsg) : Report :=
  match msgs.findSome? (fun m => fatalError m.name) with
  | some e => .fail e.kind e.info msgs
  | none =>
    match msgs.findSome? unknownError with
    | some e => .fail e.kind e.info msgs
    | none =>
      match msgs.findSome? (fun m => nackError m.name) with
      | some e => .fail e.kind e.info msgs
      | none => if msgs.any (fun m => decide (m.name = .commandAcknowledge)) then .ack msgs else .notice msgs

/-- What a classification gives: its outcome, the samples it emits, and the scratch state it leaves (R130, R143). -/
structure Classified where
  report : Report
  samples : List Sample
  cl : Scratch
  deriving DecidableEq, Repr

/-- `SCAN_PATH` (R141). -/
def scanPath (t : MsgTable) (b : Bytes) (expect : Option Byte) (kind : CycleKind) : Classified :=
  let c := scan t b
  let report := match c.verdict with
    | .messages msgs => evaluate msgs
    | .malformed => .fail .malformedFrame .partialSysMsg []
    | .raw =>
      if b = [] then
        match kind with
        | .command | .startCommand => .fail .timeout .noReply []
        | .acquisition | .listen => .nothing
      else
        match expect with
        | none => .rawUnclassified b
        | some _ => .fail .malformedFrame .leadMismatch []
  { report := report, samples := [], cl := c }

/-- The decoding of a reply's frames by shape: the samples emitted, and the value or the failure (R143, R165, R198). -/
def decodeValue (cfg : Config) (ts : TsMode) (cr : CrMode) (shape : ReplyShape) (frames : List Bytes) :
    List Sample × Except Raised ReplyValue :=
  match shape with
  | .bytes => ([], .ok (.bytes (concatFrames frames)))
  | .uint => ([], decodeUint (concatFrames frames))
  | .floatList => ([], decodeFloatList (concatFrames frames))
  | .deviceId => ([], decodeDeviceId cfg.devId (concatFrames frames))
  | .samples =>
    let r := decodeSamples ts cr frames
    (r.1, match r.2 with
      | some e => .error e
      | none => .ok (.samples r.1))

/-- The end of the command path once frames and messages are known (R143). -/
def finishFrames (cfg : Config) (ts : TsMode) (cr : CrMode) (shape : ReplyShape) (frames : List Bytes)
    (msgs : List SysMsg) (cl : Scratch) : Classified :=
  let d := decodeValue cfg ts cr shape frames
  let report := match d.2 with
    | .error e => .fail e.kind e.info msgs
    | .ok v =>
      if msgs = [] then .data v msgs
      else match evaluate msgs with
        | .fail kind info _ => .fail kind info msgs
        | _ => .data v msgs
  { report := report, samples := d.1, cl := cl }

/-- `COMMAND_PATH` (R143) with the tail handling of R106. -/
def commandPath (cfg : Config) (ts : TsMode) (cr : CrMode) (cl : Scratch) (b : Bytes) (e : Byte) (shape : ReplyShape) :
    Classified :=
  match parseFrames b e with
  | .err r => { report := .fail r.kind r.info [], samples := [], cl := cl }
  | .ok frames rest =>
    if rest = [] then finishFrames cfg ts cr shape frames [] cl
    else
      match cfg.mixedBurst with
      | .strict => { report := .fail .malformedFrame .trailingBytes [], samples := [], cl := cl }
      | .framesThenMessages =>
        let c := scan cfg.msgTable rest
        match c.verdict with
        | .messages msgs => finishFrames cfg ts cr shape frames msgs c
        | .malformed | .raw => { report := .fail .malformedFrame .trailingBytes [], samples := [], cl := c }

/-- `CLASSIFY` (R140). -/
def classify (cfg : Config) (ts : TsMode) (cr : CrMode) (cl : Scratch) (b : Bytes) (expect : Option Byte)
    (shape : ReplyShape) (kind : CycleKind) (overflow : Bool) : Classified :=
  if overflow then { report := .fail .malformedFrame .overflow [], samples := [], cl := cl }
  else
    match expect, b with
    | some e, b0 :: _ => if b0 = e then commandPath cfg ts cr cl b e shape else scanPath cfg.msgTable b expect kind
    | _, _ => scanPath cfg.msgTable b expect kind

end Sys2Proof.Machine
end

