-- ==== Sys2Proof/Machine/Flags.lean ====
section
/-! DEFINITION. The status flags of the block (spec/10_state.md R29) and what the outcome of a cycle does to them
(spec/46_session.md R197). The block has no arithmetic condition codes. -/

namespace Sys2Proof.Machine

/-- The abort of a measurement session: `ACQ_ACTIVE` is cleared and `ABORT_PENDING` is set (R26, R27). -/
def State.abortSession (s : State) : State :=
  { s with acqActive := false, abortPending := true }

/-- Write `ACQ_ACTIVE` (R26). -/
def State.setAcqActive (s : State) (v : Bool) : State :=
  { s with acqActive := v }

/-- The idle flag `IDLE_CNT = IDLE_THRESHOLD`, as the reader tests it (R29, R119). -/
def State.idleReached (s : State) : Bool :=
  decide (s.idleThreshold ≤ s.idleCnt)

/-- A measurement cycle in the sense of R121: one that belongs to an acquisition. -/
def State.inAcquisition (s : State) : Bool :=
  decide (s.cycleKind = .acquisition) || s.acqActive

/-- `EFFECTS(outcome)` (R197). -/
def State.applyEffects (s : State) (o : Report) : State :=
  match o with
  | .fail kind _ _ => if kind.isFatal then s.abortSession else s
  | .ack _ | .data _ _ => if s.cycleKind = .startCommand then s.setAcqActive true else s
  | .notice _ | .rawUnclassified _ | .nothing | .refused _ | .done | .status .. => s

end Sys2Proof.Machine
end

