-- ==== Sys2Proof/Machine/Ops.lean ====
section
/-! DEFINITION. The shared operations of the block: delivery of an outcome, which is how an error is taken
(spec/60_exceptions.md R225), and its acknowledgment (R226); refusal (spec/46_session.md R191); transmission
(spec/41_framebuilder.md R103); the collection cycle (spec/42_framereader.md R116 to R121). -/

namespace Sys2Proof.Machine

/-! ## Streams and errors -/

/-- `emit RESULT_OUT` (R33). -/
def State.emit (s : State) (o : Report) : State :=
  { s with resultOut := s.resultOut ++ [o] }

/-- The error part of `deliver` (R225): one element on `ERROR_OUT`, and `LAST_ERR` overwritten. -/
def State.recordError (s : State) (e : Raised) : State :=
  { s with errorOut := s.errorOut ++ [e], lastErr := { code := e.kind.code, info := some e.info } }

/-- `deliver(outcome)` (R225), the one way an error is taken: nothing is saved and no control is transferred. -/
def State.deliver (s : State) (o : Report) : State :=
  match o with
  | .fail kind info _ => (s.emit o).recordError { kind := kind, info := info }
  | _ => s.emit o

/-- `refuse(reason)`: nothing but `RESULT_OUT` changes (R191, R217). -/
def State.decline (s : State) (r : RefuseReason) : State :=
  s.emit (.refused r)

/-- The host's acknowledgment of an abort, the counterpart of a return (R202, R226). -/
def State.ackAbort (s : State) : State :=
  { s with abortPending := false, lastErr := { code := 0, info := none } }

/-! ## Refusal -/

/-- What the refusal tests of R191 look at: which operation it is, and the operand of the two that have an operand test. -/
inductive OpClass where
  | command
  | stopMeas
  | sendRaw (opcode : Byte)
  | listen
  | setReplyFormat
  | setIdleThreshold (n : Nat)
  | ackAbort
  | readStatus
  deriving DecidableEq, Repr

/-- Test 2 refuses the operations that would transmit (R191). -/
def OpClass.transmits : OpClass → Bool
  | .command | .stopMeas | .sendRaw _ => true
  | .listen | .setReplyFormat | .setIdleThreshold _ | .ackAbort | .readStatus => false

/-- Test 3 refuses these while the acquisition loop runs (R191). -/
def OpClass.blockedByAcq : OpClass → Bool
  | .command | .sendRaw _ | .listen | .setReplyFormat => true
  | .stopMeas | .setIdleThreshold _ | .ackAbort | .readStatus => false

/-- Test 4, the operand tests (R191, R193, R201). -/
def OpClass.badOperand : OpClass → Option RefuseReason
  | .sendRaw opcode => if opcode = sysOpcode then some .reservedOpcode else none
  | .setIdleThreshold n => if n = 0 ∨ idleMax < n then some .badValue else none
  | .command | .stopMeas | .listen | .setReplyFormat | .ackAbort | .readStatus => none

/-- The refusal of an operation, the four tests of R191 in their order. -/
def State.refusal (s : State) (op : OpClass) : Option RefuseReason :=
  if s.phase = .collect then some .busy
  else if s.abortPending = true ∧ op.transmits = true then some .abortPending
  else if s.acqActive = true ∧ op.blockedByAcq = true then some .acqActive
  else op.badOperand

/-- An operation behind the refusal tests (R191): it is declined or performed. -/
def State.guarded (s : State) (op : OpClass) (perform : State → State) : State :=
  match s.refusal op with
  | some r => s.decline r
  | none => perform s

/-! ## Transmission and the start of a cycle -/

/-- `TX_WRITE` (R103): the whole frame in one call, answered by the environment. -/
def State.txWrite (s : State) (f : Bytes) : Except Raised State :=
  match s.txAnswer with
  | .ok => .ok { s with txOut := s.txOut ++ [f] }
  | .fail => .error { kind := .transportError, info := .write }

/-- `START_CYCLE(kind, expect, shape)` (R116). -/
def State.startCycle (s : State) (kind : CycleKind) (expect : Option Byte) (shape : ReplyShape) : State :=
  { s with cycleKind := kind, expect := expect, shape := shape, rxbuf := [], idleCnt := 0, overflow := false,
           phase := .collect }

/-- `SEND` from the built frame on (R192, R193). -/
def State.sendFrame (s : State) (frame : Except EncStop Bytes) (stops : Bool) (kind : CycleKind) (opcode : Byte)
    (shape : ReplyShape) : State :=
  match frame with
  | .error (.refuse r) => s.decline r
  | .error (.raise e) => s.deliver (.fail e.kind e.info [])
  | .ok f =>
    match s.txWrite f with
    | .error e => s.deliver (.fail e.kind e.info [])
    | .ok s1 => (if stops then s1.setAcqActive false else s1).startCycle kind (some opcode) shape

/-- `SEND(cmd)` for a command of the catalogue, refusal tests first; `EXPECT` and `SHAPE` are those of its row in `CMD_TABLE`
(R70, R191, R192). -/
def State.sendCommand (s : State) (cmd : Cmd) (frame : Except EncStop Bytes) : State :=
  s.guarded (if cmd = .stopMeas then .stopMeas else .command)
    (fun s => s.sendFrame frame (decide (cmd = .stopMeas)) (cycleKindOf cmd) (s.cfg.cmdRow cmd).opcode
      (s.cfg.cmdRow cmd).shape)

/-! ## The reader -/

/-- `MemRead(addr, n)` (R8): defined only inside the buffer. -/
def State.memRead (s : State) (addr n : Nat) : Option Bytes :=
  if addr + n ≤ s.rxbuf.length then some (slice s.rxbuf addr (addr + n)) else none

/-- The append of one read's bytes, the only write to `RXBUF` but for its clearing (R118, R45): what fits is kept, and
`OVERFLOW` records that some did not. -/
def State.append (s : State) (bs : Bytes) : State :=
  if bs.length ≤ s.cfg.rxbufMax - s.rxbuf.length then { s with rxbuf := s.rxbuf ++ bs }
  else { s with rxbuf := s.rxbuf ++ bs.take (s.cfg.rxbufMax - s.rxbuf.length), overflow := true }

/-- `CLASSIFY` on the registers of the running cycle (R120, R140). -/
def State.classified (s : State) : Classified :=
  classify s.cfg s.tsMode s.crMode s.cl s.rxbuf s.expect s.shape s.cycleKind s.overflow

/-- What a classification writes before its outcome is delivered: the scratch state and `SAMPLE_OUT` (R130, R198). -/
def State.recordClassified (s : State) (c : Classified) : State :=
  { s with cl := c.cl, sampleOut := s.sampleOut ++ c.samples }

/-- `PHASE <- Ready`, the end of a cycle (R120, R121). -/
def State.endCycle (s : State) : State :=
  { s with phase := .ready }

/-- `COMPLETE_CYCLE` (R120). -/
def State.completeCycle (s : State) : State :=
  let c := s.classified
  (((s.recordClassified c).applyEffects c.report).deliver c.report).endCycle

/-- Answer `Data` of a read (R118). -/
def State.readData (s : State) (bs : Bytes) : State :=
  { s.append bs with idleCnt := 0 }

/-- The idle counter's increment (R119, R20). -/
def State.countIdle (s : State) : State :=
  { s with idleCnt := s.idleCnt + 1 }

/-- Answer `Empty` of a read (R119). -/
def State.readEmpty (s : State) : State :=
  if s.countIdle.idleReached then s.countIdle.completeCycle else s.countIdle

/-- Answer `Fail` of a read (R121). -/
def State.readFail (s : State) : State :=
  let s1 := { s with rxbuf := [] }
  let s2 := if s.inAcquisition then s1.abortSession else s1
  (s2.deliver (.fail .transportError .read [])).endCycle

/-- What `transport.read` answers, given what the environment now does: bytes the transport already held come first, in the
order sent, and a read that yields no byte is an empty one (R32, R39, R44). -/
def transportRead (waiting : Bytes) : ReadAnswer → ReadAnswer
  | .fail => .fail
  | .empty => if waiting = [] then .empty else .data waiting
  | .data bs => if waiting ++ bs = [] then .empty else .data (waiting ++ bs)

/-- A read removes what it returns from the transport (R44). -/
def State.drainTransport (s : State) : State :=
  { s with waiting := [] }

/-- `READ_STEP` with an answer (R117 to R121), in a state that is collecting. -/
def State.readStep (s : State) (a : ReadAnswer) : State :=
  match transportRead s.waiting a with
  | .data bs => s.drainTransport.readData bs
  | .empty => s.readEmpty
  | .fail => s.readFail

/-- Bytes the device sends while no read is made wait in the transport (R39, R219). -/
def State.hold (s : State) (bs : Bytes) : State :=
  { s with waiting := s.waiting ++ bs }

/-- `n` reads that find nothing, as long as the cycle runs. -/
def State.idleReads : Nat → State → State
  | 0, s => s
  | n + 1, s => if s.phase = .collect then idleReads n (s.readStep .empty) else s

/-- One whole burst of the device (R9, R194: "one contiguous burst per reply"). In a running cycle it is a read that returns
the bytes and then the `IDLE_THRESHOLD` empty reads that end the cycle; in `Ready` the bytes wait and will head the next
cycle's buffer (R219, R262). -/
def State.burst (s : State) (bs : Bytes) : State :=
  match s.phase with
  | .collect => State.idleReads s.idleThreshold (s.readStep (.data bs))
  | .ready => s.hold bs

end Sys2Proof.Machine
end

