-- ==== Sys2Proof/Machine/Commands.lean ====
section
/-! DEFINITION. The meanings of the host-to-device rows: the eight commands (spec/44_commandset.md R151 to R159, sent by
spec/46_session.md R192) and the generic frame (R193). -/

namespace Sys2Proof.Machine

/-- INIT_SETUP (R151, R192). -/
def execInitSetup (s : State) : Host.Outcome State Fault Refusal :=
  .next (s.sendCommand .initSetup (frameInitSetup s.cfg))

/-- ADD_FREQ_LIST (R152, R192). -/
def execAddFreqList (spec : SweepSpec) (s : State) : Host.Outcome State Fault Refusal :=
  .next (s.sendCommand .addFreqList (frameAddFreqList s.cfg spec))

/-- START_MEAS (R154, R192); its cycle's outcome enters the acquisition loop (R197). -/
def execStartMeas (rep : Nat) (s : State) : Host.Outcome State Fault Refusal :=
  .next (s.sendCommand .startMeas (frameStartMeas s.cfg rep))

/-- STOP_MEAS (R155, R192): `ACQ_ACTIVE` is cleared once the frame is written. -/
def execStopMeas (s : State) : Host.Outcome State Fault Refusal :=
  .next (s.sendCommand .stopMeas (frameStopMeas s.cfg))

/-- GET_NUM_FREQ (R156, R192). -/
def execGetNumFreq (s : State) : Host.Outcome State Fault Refusal :=
  .next (s.sendCommand .getNumFreq (frameGetNumFreq s.cfg))

/-- GET_FREQ_POINT (R157, R192). -/
def execGetFreqPoint (row : Nat) (s : State) : Host.Outcome State Fault Refusal :=
  .next (s.sendCommand .getFreqPoint (frameGetFreqPoint s.cfg row))

/-- GET_FREQ_LIST (R158, R192). -/
def execGetFreqList (s : State) : Host.Outcome State Fault Refusal :=
  .next (s.sendCommand .getFreqList (frameGetFreqList s.cfg))

/-- GET_DEVICE_ID (R159, R192). -/
def execGetDeviceId (s : State) : Host.Outcome State Fault Refusal :=
  .next (s.sendCommand .getDeviceId (frameGetDeviceId s.cfg))

/-- SEND_RAW (R193). -/
def sendRaw (opcode : Byte) (payload : Bytes) (shape : ReplyShape) (s : State) : State :=
  s.guarded (.sendRaw opcode) (fun s => s.sendFrame (build opcode payload) false .command opcode shape)

/-- The generic frame: sent by the host with SEND_RAW (R193), or sent by the device and left to the parser (R105). -/
def execFrame (dir : FrameDir) (opcode : Byte) (payload : Bytes) (s : State) : Host.Outcome State Fault Refusal :=
  match dir with
  | .send shape => .next (sendRaw opcode payload shape s)
  | .receive => .next (s.burst (envelope opcode payload))

end Sys2Proof.Machine
end

