-- ==== Sys2Proof/Machine/Messages.lean ====
section
/-! DEFINITION. The meanings of the system-message rows (spec/30_encoding.md R75): the device sends the message as one burst,
the scan finds it (spec/43_classifier.md R131 to R136), and its class decides the cycle's outcome (R142,
spec/60_exceptions.md R218). In `Ready` it waits in the transport (R219). The code of a named message is its code in
`MSG_TABLE`; the docstrings give R75's. -/

namespace Sys2Proof.Machine

/-- The four bytes of a system message on the wire (R63). -/
def sysFrame (code : Byte) : Bytes :=
  [sysOpcode, sysLength, code, sysOpcode]

/-- SYS_FrameNotAcknowledge, code 0x01, class nack: the cycle fails with `MalformedFrame(DeviceFrameNack)` (R142). -/
def execSysFrameNotAcknowledge (s : State) : Host.Outcome State Fault Refusal :=
  .next (s.burst (sysFrame s.cfg.msgTable.frameNotAcknowledge))

/-- SYS_Timeout, code 0x02, class nack: the cycle fails with `Timeout(DeviceTimeout)` (R142). -/
def execSysTimeout (s : State) : Host.Outcome State Fault Refusal :=
  .next (s.burst (sysFrame s.cfg.msgTable.timeout))

/-- SYS_WakeUp, code 0x04, class info: `Notice` when alone (R142). -/
def execSysWakeUp (s : State) : Host.Outcome State Fault Refusal :=
  .next (s.burst (sysFrame s.cfg.msgTable.wakeUp))

/-- SYS_TcpSocketValid, code 0x11, class info: `Notice` when alone (R142). -/
def execSysTcpSocketValid (s : State) : Host.Outcome State Fault Refusal :=
  .next (s.burst (sysFrame s.cfg.msgTable.tcpSocketValid))

/-- SYS_NotAcknowledgeNotExecuted, code 0x81, class nack: the cycle fails with `NotExecuted(DeviceNack)` (R142). -/
def execSysNotAcknowledgeNotExecuted (s : State) : Host.Outcome State Fault Refusal :=
  .next (s.burst (sysFrame s.cfg.msgTable.notAcknowledgeNotExecuted))

/-- SYS_NotAcknowledgeUnrecognized, code 0x82, class nack: the cycle fails with `UnrecognizedCommand(DeviceNack)` (R142). -/
def execSysNotAcknowledgeUnrecognized (s : State) : Host.Outcome State Fault Refusal :=
  .next (s.burst (sysFrame s.cfg.msgTable.notAcknowledgeUnrecognized))

/-- SYS_CommandAcknowledge, code 0x83, class ack: `Ack`, and a StartMeasurement cycle enters the acquisition loop (R197) (R142). -/
def execSysCommandAcknowledge (s : State) : Host.Outcome State Fault Refusal :=
  .next (s.burst (sysFrame s.cfg.msgTable.commandAcknowledge))

/-- SYS_SystemReady, code 0x84, class info: `Notice` when alone (R142). -/
def execSysSystemReady (s : State) : Host.Outcome State Fault Refusal :=
  .next (s.burst (sysFrame s.cfg.msgTable.systemReady))

/-- SYS_Overcurrent, code 0x90, class fatal: the cycle fails with `Overcurrent(DeviceFault)` and the session is aborted (R197) (R142). -/
def execSysOvercurrent (s : State) : Host.Outcome State Fault Refusal :=
  .next (s.burst (sysFrame s.cfg.msgTable.overcurrent))

/-- SYS_Overvoltage, code 0x91, class fatal: the cycle fails with `Overvoltage(DeviceFault)` and the session is aborted (R197) (R142). -/
def execSysOvervoltage (s : State) : Host.Outcome State Fault Refusal :=
  .next (s.burst (sysFrame s.cfg.msgTable.overvoltage))

/-- SYS_DataHoldup, code 0x92, class fatal: the cycle fails with `DataHoldup(DeviceFault)` and the session is aborted (R197) (R142). -/
def execSysDataHoldup (s : State) : Host.Outcome State Fault Refusal :=
  .next (s.burst (sysFrame s.cfg.msgTable.dataHoldup))

/-- SYS_GENERIC: the message of any code; one outside the eleven is classified `Unknown` (R134) and fails the cycle with
`MalformedFrame(UnknownSysCode)` (R142 item 2). -/
def execSysGeneric (code : Byte) (s : State) : Host.Outcome State Fault Refusal :=
  .next (s.burst (sysFrame code))

end Sys2Proof.Machine
end

