-- ==== Sys2Proof/Machine/Samples.lean ====
section
/-! DEFINITION. The meanings of the measurement-sample rows (spec/30_encoding.md R71): the device sends one sample frame as a
burst; a cycle that expects opcode 0xB8 with shape `Samples` parses it (spec/41_framebuilder.md R105), decodes it under
TS_MODE and CR_MODE (spec/45_measurement.md R180) and emits it on `SAMPLE_OUT` (spec/46_session.md R198). In any other
cycle, or under another reply format, the same bytes are classified as those rules say. -/

namespace Sys2Proof.Machine

/-- The frame of a sample in the layout of a timestamp mode (R71, R184). -/
def sampleFrame (ts : TsMode) (p : Sample) : Bytes :=
  envelope sampleOpcode (encSample p ts)

/-- SAMPLE_NONE_ABSENT: no timestamp, no current range (R71, R180). -/
def execSampleNoneAbsent (pointId : BitVec 16) (re im : F32) (s : State) : Host.Outcome State Fault Refusal :=
  .next (s.burst (sampleFrame .off
    { pointId := pointId, timestamp := none, currentRange := none, re := re, im := im }))

/-- SAMPLE_NONE_PRESENT: no timestamp, current range (R71, R180). -/
def execSampleNonePresent (pointId : BitVec 16) (range : Byte) (re im : F32) (s : State) : Host.Outcome State Fault Refusal :=
  .next (s.burst (sampleFrame .off
    { pointId := pointId, timestamp := none, currentRange := (some range), re := re, im := im }))

/-- SAMPLE_MS4_ABSENT: 4-byte timestamp, no current range (R71, R180). -/
def execSampleMs4Absent (pointId : BitVec 16) (time : BitVec 32) (re im : F32) (s : State) : Host.Outcome State Fault Refusal :=
  .next (s.burst (sampleFrame .ms4
    { pointId := pointId, timestamp := (some (time.setWidth 40)), currentRange := none, re := re, im := im }))

/-- SAMPLE_MS4_PRESENT: 4-byte timestamp, current range (R71, R180). -/
def execSampleMs4Present (pointId : BitVec 16) (time : BitVec 32) (range : Byte) (re im : F32) (s : State) : Host.Outcome State Fault Refusal :=
  .next (s.burst (sampleFrame .ms4
    { pointId := pointId, timestamp := (some (time.setWidth 40)), currentRange := (some range), re := re, im := im }))

/-- SAMPLE_US5_ABSENT: 5-byte timestamp, no current range (R71, R180). -/
def execSampleUs5Absent (pointId : BitVec 16) (time : BitVec 40) (re im : F32) (s : State) : Host.Outcome State Fault Refusal :=
  .next (s.burst (sampleFrame .us5
    { pointId := pointId, timestamp := (some time), currentRange := none, re := re, im := im }))

/-- SAMPLE_US5_PRESENT: 5-byte timestamp, current range (R71, R180). -/
def execSampleUs5Present (pointId : BitVec 16) (time : BitVec 40) (range : Byte) (re im : F32) (s : State) : Host.Outcome State Fault Refusal :=
  .next (s.burst (sampleFrame .us5
    { pointId := pointId, timestamp := (some time), currentRange := (some range), re := re, im := im }))

end Sys2Proof.Machine
end

