-- ==== Sys2Proof/Machine/Dispatch.lean ====
section
/-! DEFINITION. The dispatch from an instruction to its meaning, one arm per row of spec/opcode_table.json. -/

namespace Sys2Proof.Machine

def exec (i : Instr) (s : State) : Host.Outcome State Fault Refusal :=
  match i with
  | .initSetup => Sys2Proof.Machine.execInitSetup s
  | .addFreqList spec => Sys2Proof.Machine.execAddFreqList spec s
  | .startMeas rep => Sys2Proof.Machine.execStartMeas rep s
  | .stopMeas => Sys2Proof.Machine.execStopMeas s
  | .getNumFreq => Sys2Proof.Machine.execGetNumFreq s
  | .getFreqPoint row => Sys2Proof.Machine.execGetFreqPoint row s
  | .getFreqList => Sys2Proof.Machine.execGetFreqList s
  | .getDeviceId => Sys2Proof.Machine.execGetDeviceId s
  | .frame dir opcode payload => Sys2Proof.Machine.execFrame dir opcode payload s
  | .sysFrameNotAcknowledge => Sys2Proof.Machine.execSysFrameNotAcknowledge s
  | .sysTimeout => Sys2Proof.Machine.execSysTimeout s
  | .sysWakeUp => Sys2Proof.Machine.execSysWakeUp s
  | .sysTcpSocketValid => Sys2Proof.Machine.execSysTcpSocketValid s
  | .sysNotAcknowledgeNotExecuted => Sys2Proof.Machine.execSysNotAcknowledgeNotExecuted s
  | .sysNotAcknowledgeUnrecognized => Sys2Proof.Machine.execSysNotAcknowledgeUnrecognized s
  | .sysCommandAcknowledge => Sys2Proof.Machine.execSysCommandAcknowledge s
  | .sysSystemReady => Sys2Proof.Machine.execSysSystemReady s
  | .sysOvercurrent => Sys2Proof.Machine.execSysOvercurrent s
  | .sysOvervoltage => Sys2Proof.Machine.execSysOvervoltage s
  | .sysDataHoldup => Sys2Proof.Machine.execSysDataHoldup s
  | .sysGeneric code => Sys2Proof.Machine.execSysGeneric code s
  | .sampleNoneAbsent pointId re im => Sys2Proof.Machine.execSampleNoneAbsent pointId re im s
  | .sampleNonePresent pointId range re im => Sys2Proof.Machine.execSampleNonePresent pointId range re im s
  | .sampleMs4Absent pointId time re im => Sys2Proof.Machine.execSampleMs4Absent pointId time re im s
  | .sampleMs4Present pointId time range re im => Sys2Proof.Machine.execSampleMs4Present pointId time range re im s
  | .sampleUs5Absent pointId time re im => Sys2Proof.Machine.execSampleUs5Absent pointId time re im s
  | .sampleUs5Present pointId time range re im => Sys2Proof.Machine.execSampleUs5Present pointId time range re im s

end Sys2Proof.Machine
end

