-- ==== Sys2Proof/Machine/Session.lean ====
section
/-! DEFINITION. What the block does outside the rows of the opcode table: the register-access operations and LISTEN
(spec/46_session.md R196, R200 to R203), its own acquisition step (R199), and the external reset
(spec/70_reset_and_hazards.md R250, R251). -/

namespace Sys2Proof.Machine

/-- LISTEN (R196). -/
def State.listen (s : State) : State :=
  s.guarded .listen (fun s => s.startCycle .listen none .bytes)

/-- The write of the reply-format registers (R200). -/
def State.writeFormat (s : State) (ts : TsMode) (cr : CrMode) : State :=
  { s with tsMode := ts, crMode := cr }

/-- SET_REPLY_FORMAT (R200). -/
def State.setReplyFormat (s : State) (ts : TsFormat) (cr : CrFormat) : State :=
  s.guarded .setReplyFormat (fun s => (s.writeFormat (tsModeOf ts) (crModeOf cr)).emit .done)

/-- The write of `IDLE_THRESHOLD` (R201). -/
def State.writeThreshold (s : State) (n : Nat) : State :=
  { s with idleThreshold := n }

/-- SET_IDLE_THRESHOLD (R201). -/
def State.setIdleThreshold (s : State) (n : Nat) : State :=
  s.guarded (.setIdleThreshold n) (fun s => (s.writeThreshold n).emit .done)

/-- ACK_ABORT (R202). -/
def State.acknowledge (s : State) : State :=
  s.guarded .ackAbort (fun s => s.ackAbort.emit .done)

/-- READ_STATUS (R203). -/
def State.readStatus (s : State) : State :=
  s.guarded .readStatus
    (fun s => s.emit (.status s.acqActive s.abortPending s.lastErr s.idleThreshold s.tsMode s.crMode))

/-- A host operation without a wire form. -/
def State.runLocal (s : State) : LocalOp → State
  | .listen => s.listen
  | .setReplyFormat ts cr => s.setReplyFormat ts cr
  | .setIdleThreshold n => s.setIdleThreshold n
  | .ackAbort => s.acknowledge
  | .readStatus => s.readStatus

/-- The acquisition step is enabled (R190, R199). -/
def State.acqEnabled (s : State) : Bool :=
  decide (s.phase = .ready) && s.acqActive && !s.abortPending

/-- ACQ_STEP (R199). -/
def State.acqStep (s : State) : State :=
  s.startCycle .acquisition (some sampleOpcode) .samples

/-- A step in which the host presents nothing: the block takes its own step if it has one (R190). -/
def State.runQuiet (s : State) : State :=
  if s.acqEnabled then s.acqStep else s

/-- The environment's answer to a read: the reader takes it if a cycle runs; if none does, no read is made, and bytes of the
device stay in the transport (R117, R39). -/
def State.runRead (s : State) (a : ReadAnswer) : State :=
  match s.phase with
  | .collect => s.readStep a
  | .ready =>
    match a with
    | .data bs => s.hold bs
    | .empty | .fail => s

/-- The external reset (R250): every element of the block to its reset value; the parameters and the environment, the
transport's bytes among it, stay (R251, R37). -/
def State.resetBlock (s : State) : State :=
  { State.reset with
    cfg := s.cfg
    waiting := s.waiting
    txAnswer := s.txAnswer
    script := s.script
    envIdx := s.envIdx }

/-- The answer the transport gives to a write in this step (R31). -/
def State.withTxAnswer (s : State) (a : TxAnswer) : State :=
  { s with txAnswer := a }

/-- The environment's input to this step: the next one laid down, or, beyond those, a free value. -/
def State.nextInput (s : State) : Input :=
  match s.script with
  | i :: _ => i
  | [] => Config.environment s.envIdx

/-- The input is taken. -/
def State.takeInput (s : State) : State :=
  match s.script with
  | _ :: rest => { s with script := rest }
  | [] => { s with envIdx := s.envIdx + 1 }

/-- What one input asks of the block. -/
inductive Fetched where
  | run (i : Instr) (s : State)
  | moved (s : State)
  | undecodable (why : DecodeError)
  deriving DecidableEq, Repr

/-- The port the device's bytes arrive on, under the reply format in force (R71). -/
def State.devicePort (s : State) : Port :=
  .device s.tsMode s.crMode

/-- Fetching: the input becomes an instruction to run, or a move of the block that no row of the table names. Bytes of the
device that are no frame are a burst all the same: the classifier reads any bytes (R140). -/
def State.fetch (s : State) (inp : Input) : Fetched :=
  match inp with
  | .quiet => .moved s.runQuiet
  | .op i ans => .run i (s.withTxAnswer ans)
  | .host bs shape ans =>
    match decode s.cfg (.host shape) bs with
    | .ok i => .run i (s.withTxAnswer ans)
    | .error e => .undecodable e
  | .localOp o => .moved (s.runLocal o)
  | .device bs =>
    match decode s.cfg s.devicePort bs with
    | .ok i => .run i s
    | .error _ => .moved (s.burst bs)
  | .read a => .moved (s.runRead a)
  | .reset => .moved s.resetBlock

/-- The input that lays an item of the table on the port its direction names: the host's, with the write answered `Ok`, or
the device's. -/
def State.wordInput (s : State) (bs : Bytes) : Input :=
  match decodeRow s.cfg s.tsMode s.crMode bs with
  | some i => if i.fromDevice then .device bs else .host bs .bytes .ok
  | none => .host bs .bytes .ok

end Sys2Proof.Machine
end

