-- ==== Sys2Proof/Machine/Step.lean ====
section
/-! DEFINITION. One step of the block (spec/46_session.md R190): it takes the environment's next input, and runs the
instruction the input holds or makes the move it stands for. -/

namespace Sys2Proof.Machine

/-- One step. -/
def step (s : State) : Host.Outcome State Fault Refusal :=
  match s.takeInput.fetch s.nextInput with
  | .run i s1 => exec i s1
  | .moved s1 => .next s1
  | .undecodable why => .refused (.notAnOperation why)

/-- `s` with a table word laid on the port its direction names, ahead of every other input, so that the next step runs it. -/
def State.withFetchWord (s : State) (nbits w : Nat) : State :=
  { s with script := s.wordInput (tableBytes nbits w) :: s.script }

end Sys2Proof.Machine
end

