-- ==== Sys2Proof/Safety.lean ====
section
/-! DEFINITION. What a safe run is, in the words the statements use: the invariants of spec/46_session.md R204, the agreement of
the error stream with the outcomes (spec/60_exceptions.md R225), and the situations in which a row of the table has its
own effect. A step never faults (`Fault` has no constructor). -/

namespace Sys2Proof.Machine

/-! ## The invariants of R204 -/

/-- R204 (a): an abort that waits for its acknowledgment leaves no acquisition running. -/
abbrev State.AbortEndsAcquisition (s : State) : Prop :=
  s.abortPending = true → s.acqActive = false

/-- R204 (b): an acquisition cycle runs only under `ACQ_ACTIVE`. -/
abbrev State.AcquisitionCycleActive (s : State) : Prop :=
  s.phase = .collect → s.cycleKind = .acquisition → s.acqActive = true

/-- R204 (c): any other cycle runs only without it. -/
abbrev State.OtherCycleInactive (s : State) : Prop :=
  s.phase = .collect → s.cycleKind ≠ .acquisition → s.acqActive = false

/-- R204 (d): a running cycle has not reached its threshold. -/
abbrev State.IdleBelowThreshold (s : State) : Prop :=
  s.phase = .collect → s.idleCnt < s.idleThreshold

/-- R204 (e): the threshold is legal. -/
abbrev State.ThresholdLegal (s : State) : Prop :=
  1 ≤ s.idleThreshold ∧ s.idleThreshold ≤ 255

/-- R204 (f), the form memory keeps: the receive buffer is within its capacity. -/
def State.memWf (s : State) : Bool :=
  decide (s.rxbuf.length ≤ s.cfg.rxbufMax)

/-- What R204 (a) rests on in its own words: a StartMeasurement cycle runs only while no abort is pending, because test 2 of
R191 refuses the command otherwise. -/
abbrev State.StartCycleClear (s : State) : Prop :=
  s.phase = .collect → s.cycleKind = .startCommand → s.abortPending = false

/-- The invariants of R204 together. -/
abbrev State.Inv (s : State) : Prop :=
  s.AbortEndsAcquisition ∧ s.AcquisitionCycleActive ∧ s.OtherCycleInactive ∧ s.IdleBelowThreshold
    ∧ s.ThresholdLegal ∧ s.memWf = true ∧ s.StartCycleClear

/-! ## The streams -/

/-- The errors the failing outcomes of a stream carry, in order. -/
def failsOf (rs : List Report) : List Raised :=
  rs.filterMap fun r => match r with
    | .fail kind info _ => some { kind := kind, info := info }
    | _ => none

/-- Every failure stands once on `RESULT_OUT` and once on `ERROR_OUT`, in the same order (R225). -/
abbrev State.ErrorsSurfaced (s : State) : Prop :=
  s.errorOut = failsOf s.resultOut

/-- The pair `LAST_ERR` holds for the newest of some errors; `(0, none)` for none (R28). -/
def lastErrOf (es : List Raised) : LastErr :=
  match es.getLast? with
  | some e => { code := e.kind.code, info := some e.info }
  | none => { code := 0, info := none }

/-- `LAST_ERR` is the newest error, or it was cleared since (R28, R202). -/
abbrev State.LastErrCurrent (s : State) : Prop :=
  s.lastErr = lastErrOf s.errorOut ∨ s.lastErr = { code := 0, info := none }

/-- The four append-only streams of one state continue those of another (R33 to R36). -/
abbrev State.StreamsExtend (s t : State) : Prop :=
  (∃ l, t.resultOut = s.resultOut ++ l) ∧ (∃ l, t.sampleOut = s.sampleOut ++ l) ∧
    (∃ l, t.errorOut = s.errorOut ++ l) ∧ (∃ l, t.txOut = s.txOut ++ l)

/-! ## Rows -/

/-- The command of the catalogue a row of the table is (R70). -/
def catalogueCommand : Instr → Option Cmd
  | .initSetup => some .initSetup
  | .addFreqList _ => some .addFreqList
  | .startMeas _ => some .startMeas
  | .stopMeas => some .stopMeas
  | .getNumFreq => some .getNumFreq
  | .getFreqPoint _ => some .getFreqPoint
  | .getFreqList => some .getFreqList
  | .getDeviceId => some .getDeviceId
  | .frame _ _ _ => none
  | .sysFrameNotAcknowledge | .sysTimeout | .sysWakeUp | .sysTcpSocketValid | .sysNotAcknowledgeNotExecuted
  | .sysNotAcknowledgeUnrecognized | .sysCommandAcknowledge | .sysSystemReady | .sysOvercurrent | .sysOvervoltage
  | .sysDataHoldup | .sysGeneric _ => none
  | .sampleNoneAbsent _ _ _ | .sampleNonePresent _ _ _ _ | .sampleMs4Absent _ _ _ _ | .sampleMs4Present _ _ _ _ _
  | .sampleUs5Absent _ _ _ _ | .sampleUs5Present _ _ _ _ _ => none

/-- The six sample rows (R71). -/
def isSampleRow : Instr → Bool
  | .sampleNoneAbsent _ _ _ | .sampleNonePresent _ _ _ _ | .sampleMs4Absent _ _ _ _ | .sampleMs4Present _ _ _ _ _
  | .sampleUs5Absent _ _ _ _ | .sampleUs5Present _ _ _ _ _ => true
  | .initSetup | .addFreqList _ | .startMeas _ | .stopMeas | .getNumFreq | .getFreqPoint _ | .getFreqList
  | .getDeviceId | .frame _ _ _ => false
  | .sysFrameNotAcknowledge | .sysTimeout | .sysWakeUp | .sysTcpSocketValid | .sysNotAcknowledgeNotExecuted
  | .sysNotAcknowledgeUnrecognized | .sysCommandAcknowledge | .sysSystemReady | .sysOvercurrent | .sysOvervoltage
  | .sysDataHoldup | .sysGeneric _ => false

/-! ## Replies -/

/-- What the frames of one reply hold under a reply shape, said without the parser or the session (R108, R165 to R169, R198):
the payloads of all frames joined are one value, but under `Samples` each is one sample, all of which are emitted. -/
def ReplyHolds (c : Config) (ts : TsMode) (cr : CrMode) (shape : ReplyShape) (ps : List Bytes) (value : ReplyValue)
    (samples : List Sample) : Prop :=
  match shape with
  | .bytes => value = .bytes ps.flatten ∧ samples = []
  | .uint =>
    (ps.flatten.length = 1 ∨ ps.flatten.length = 2 ∨ ps.flatten.length = 4) ∧ value = .uint (beNat ps.flatten) ∧
      samples = []
  | .floatList => ∃ fs : List F32, ps.flatten = fs.flatMap encF32 ∧ value = .floatList fs ∧ samples = []
  | .deviceId => decodeDeviceId c.devId ps.flatten = .ok value ∧ samples = []
  | .samples => (ps.map fun p => decodeSample p ts cr) = samples.map .ok ∧ value = .samples samples

/-- The frames of one reply are not of their shape (R108, R165 to R169, R198, D38): the error, and the samples decoded before
the first frame that is none. -/
def ReplyBreaks (c : Config) (ts : TsMode) (cr : CrMode) (shape : ReplyShape) (ps : List Bytes) (err : Raised)
    (samples : List Sample) : Prop :=
  match shape with
  | .bytes => False
  | .uint =>
    ps.flatten.length ≠ 1 ∧ ps.flatten.length ≠ 2 ∧ ps.flatten.length ≠ 4 ∧ err = ⟨.malformedFrame, .fieldShort⟩ ∧
      samples = []
  | .floatList => ps.flatten.length % 4 ≠ 0 ∧ err = ⟨.malformedFrame, .fieldShort⟩ ∧ samples = []
  | .deviceId => decodeDeviceId c.devId ps.flatten = .error err ∧ samples = []
  | .samples =>
    ∃ (before : List Bytes) (p : Bytes) (after : List Bytes), ps = before ++ p :: after ∧
      (before.map fun q => decodeSample q ts cr) = samples.map .ok ∧ decodeSample p ts cr = .error err

/-- The bytes of frames of one opcode, one after another (R60, R74). -/
def framesOf (e : Byte) (ps : List Bytes) : Bytes :=
  ps.flatMap fun p => [e, BitVec.ofNat 8 p.length] ++ p ++ [e]

/-! ## Situations -/

/-- No refusal test but the operand's can fail, and the transport takes what is written (R191, R103). -/
abbrev State.CanSend (s : State) : Prop :=
  s.phase = .ready ∧ s.abortPending = false ∧ s.acqActive = false ∧ s.txAnswer = .ok

/-- A cycle runs, has collected nothing yet, and finds nothing stale in the transport (R116, R262). -/
abbrev State.FreshCycle (s : State) : Prop :=
  s.phase = .collect ∧ s.rxbuf = [] ∧ s.overflow = false ∧ s.waiting = [] ∧ 1 ≤ s.idleThreshold

/-- The state after a cycle in which exactly one burst was collected, before its outcome has any effect: `RXBUF` holds the
burst, the idle counter stands at its threshold, and `PHASE` is `Ready` again. -/
def State.collected (s : State) (bs : Bytes) : State :=
  { s with phase := .ready, rxbuf := bs, idleCnt := s.idleThreshold }

/-- A burst that ends its cycle with a value: `Data` is delivered, and a StartMeasurement cycle enters the acquisition loop
(R143, R197). -/
def State.deliveredWith (s : State) (bs : Bytes) (value : ReplyValue) : State :=
  { s.collected bs with
    acqActive := s.acqActive || decide (s.cycleKind = .startCommand)
    resultOut := s.resultOut ++ [.data value []] }

/-- A burst that ends its cycle with an error that is no device fault and that no message came with (R143, R225). -/
def State.failedWith (s : State) (bs : Bytes) (kind : ErrorKind) (info : ErrInfo) : State :=
  { s.collected bs with
    resultOut := s.resultOut ++ [.fail kind info []]
    errorOut := s.errorOut ++ [⟨kind, info⟩]
    lastErr := ⟨kind.code, some info⟩ }

/-- The end of a cycle with such an error, the scratch state left as given (R120, R225). -/
def State.failing (s : State) (cl : Scratch) (kind : ErrorKind) (info : ErrInfo) : State :=
  { s with
    phase := .ready
    cl := cl
    resultOut := s.resultOut ++ [.fail kind info []]
    errorOut := s.errorOut ++ [⟨kind, info⟩]
    lastErr := ⟨kind.code, some info⟩ }

/-- The bytes a run of read answers delivers, in delivery order (R115, R122). -/
def dataOf (as : List ReadAnswer) : Bytes :=
  as.flatMap fun a => match a with
    | .data bs => bs
    | .empty | .fail => []

/-- `s` with the next answers of `transport.read` laid down. -/
def State.reading (s : State) (as : List ReadAnswer) : State :=
  { s with script := as.map .read }

/-- The scratch state a scan leaves after one whole system message and nothing else. -/
def Scratch.afterMessage (m : SysMsg) : Scratch :=
  { state := .done, code := none, entered := true, msgs := [m], pos := 4, atEnd := .seeking }

end Sys2Proof.Machine
end

