-- ==== Sys2Proof/WellFormed.lean ====
section
/-! DEFINITION. Which parameters are legal (spec/00_scope.md R6, spec/10_state.md R37), which instructions have legal operands
(spec/10_state.md R12, spec/44_commandset.md R153 to R157, spec/41_framebuilder.md R100, spec/46_session.md R193), and which
generic items are the only name of their bytes. -/

namespace Sys2Proof

/-! ## Parameters -/

/-- The offsets in the reversed middle bytes lie inside them. -/
def DevIdLayout.legal (l : DevIdLayout) : Bool :=
  decide (l.serialHighAt < l.middleSize) && decide (l.serialLowAt < l.middleSize) && decide (l.yearAt < l.middleSize)
    && decide (l.monthAt < l.middleSize)

/-- Each message is "keyed by a one-byte code" (R13): no two have one code. -/
def MsgTable.legal (t : MsgTable) : Bool :=
  decide t.codes.Nodup

/-- The payload size `L` of a command (R70). -/
def Config.payloadSize (c : Config) (cmd : Cmd) : Nat :=
  (c.cmdRow cmd).head.length + c.operandWidth cmd

/-- The frames of two commands differ whatever their operands: in the opcode, the size or the head. -/
def Config.apart (c : Config) (a b : Cmd) : Bool :=
  decide ((c.cmdRow a).opcode ≠ (c.cmdRow b).opcode) || decide (c.payloadSize a ≠ c.payloadSize b)
    || (!(c.cmdRow a).head.isPrefixOf (c.cmdRow b).head && !(c.cmdRow b).head.isPrefixOf (c.cmdRow a).head)

/-- A command table a block can have: no command has the opcode of system messages (R140, R193), every payload fits a frame
(R62), and no two commands share a frame. -/
def Config.tableLegal (c : Config) : Bool :=
  Cmd.all.all fun a => decide ((c.cmdRow a).opcode ≠ 0x18) && decide (c.payloadSize a ≤ 252)
    && Cmd.all.all fun b => decide (a = b) || c.apart a b

/-- The values R6 and R37 admit: a buffer of at least 255 bytes, one of the two argument lists of InitSetup, a row width the
codec has, codes that tell the two members of each enum apart, and legal tables. -/
def Config.legal (c : Config) : Bool :=
  decide (255 ≤ c.rxbufMax)
    && (decide (c.initSetupArgs = [0x01]) || decide (c.initSetupArgs = []))
    && (decide (c.rowWidth = 1) || decide (c.rowWidth = 2) || decide (c.rowWidth = 4))
    && decide (c.scaleLinear ≠ c.scaleLogarithmic)
    && decide (c.excitationVoltage ≠ c.excitationCurrent)
    && decide (c.boolFalse ≠ c.boolTrue)
    && c.devId.legal && c.tableLegal && c.msgTable.legal

/-! ## Items -/

/-- A sweep that keeps the invariants of R12 and fits its fields. -/
def SweepSpec.legal (sp : SweepSpec) : Bool :=
  decide (1 ≤ sp.steps) && decide (sp.steps < 2 ^ 32) && decide (sp.pointDelayUs < 2 ^ 32)
    && (decide (sp.scale = .linear) || fle32 sp.startFreq sp.stopFreq)

/-- The operands are legal: the operation neither raises an encoding error nor is refused for its operands. -/
def Instr.wellFormed (c : Config) : Instr → Bool
  | .addFreqList sp => sp.legal
  | .startMeas rep => decide (rep < 65536)
  | .getFreqPoint row => decide (row < 256 ^ c.rowWidth)
  | .frame (.send _) opcode payload => decide (payload.length ≤ 252) && decide (opcode ≠ 0x18)
  | .frame .receive _ payload => decide (payload.length ≤ 255)
  | .initSetup | .stopMeas | .getNumFreq | .getFreqList | .getDeviceId => true
  | .sysFrameNotAcknowledge | .sysTimeout | .sysWakeUp | .sysTcpSocketValid | .sysNotAcknowledgeNotExecuted
  | .sysNotAcknowledgeUnrecognized | .sysCommandAcknowledge | .sysSystemReady | .sysOvercurrent | .sysOvervoltage
  | .sysDataHoldup | .sysGeneric _ => true
  | .sampleNoneAbsent _ _ _ | .sampleNonePresent _ _ _ _ | .sampleMs4Absent _ _ _ _ | .sampleMs4Present _ _ _ _ _
  | .sampleUs5Absent _ _ _ _ | .sampleUs5Present _ _ _ _ _ => true

/-- The item is the row the table gives its bytes: a generic frame or message is canonical only when no narrower row holds
the same bytes, and a sample only on a port whose format registers select its layout (R71, R73, R75). -/
def Instr.canonical (c : Config) (port : Port) : Instr → Bool
  | .frame (.send shape) opcode payload =>
      decide (port = .host shape) && (frameCommandOf c opcode payload).isNone
  | .frame .receive opcode payload =>
      match port with
      | .device ts cr => (deviceRowOf c ts cr opcode payload).isNone
      | .host _ => false
  | .sysGeneric code => decide (sysOf c code = .sysGeneric code) && (match port with | .device _ _ => true | .host _ => false)
  | .sampleMs4Present _ _ _ _ _ => match port with | .device ts cr => !decide (ts = .us5 ∧ cr = .absent) | .host _ => false
  | .sampleUs5Absent _ _ _ _ => match port with | .device ts cr => decide (ts = .us5 ∧ cr = .absent) | .host _ => false
  | i => if i.fromDevice then (match port with | .device _ _ => true | .host _ => false)
         else (match port with | .device _ _ => false | .host _ => true)

end Sys2Proof
end

