-- ==== Sys2Proof/Certificates/Slice0/Obligations.lean ====
section
/-! DEFINITION. The statements about the block, in the order of OBLIGATIONS.json. Statements over every state hold for every
choice of the parameters, which State carries (spec/10_state.md R37). A decision D<n> in a docstring is the spec's own
choice where its source is silent (spec/92_eei_decisions.md); an entry notes/assumptions/<n>.md is the model's. -/

open Sys2Proof Sys2Proof.Machine

/-! ## Encoding -/

/-- R60 to R71, R75: no bit of an item is dropped. For every legal choice of the parameters, every port and every item with
legal operands that is the row its port gives its bytes, decoding the encoding gives the item back. -/
def Obligations.DecodingAnEncodedItemGivesItBack : Prop :=
  ∀ (c : Config) (port : Port) (i : Instr), c.legal = true → i.wellFormed c = true → i.canonical c port = true →
    decode c port (encode c i) = .ok i

/-- R60 to R71, R75: no bit of the wire is lost or read as another. Whatever bytes the decoder accepts on a port, the item it
reads encodes to exactly those bytes. -/
def Obligations.DecodedItemEncodesToTheSameBytes : Prop :=
  ∀ (c : Config) (port : Port) (bs : Bytes) (i : Instr), decode c port bs = .ok i → encode c i = bs

/-- Words written out from R66 to R71 and R75, at least one for each family of the table and every code of R75, decode to the
item they stand for. That a word two rows fit is read as the narrower row is the model's choice
(notes/assumptions/6.md). -/
def Obligations.WordsOfEveryFamilyDecode : Prop :=
  decode {} (.host .bytes) [0xB6, 0x02, 0x01, 0x01, 0xB6] = .ok .initSetup ∧
  decode {} (.host .bytes) [0xB6, 0x25, 0x03, 0x43, 0xFA, 0x00, 0x00, 0x46, 0x1C, 0x40, 0x00, 0x00, 0x00, 0x00, 0x64, 0x00,
      0x40, 0x40, 0x00, 0x00, 0x38, 0xD1, 0xB7, 0x17, 0x01, 0x00, 0x00, 0x03, 0xE8, 0x02, 0x00, 0x00, 0x00, 0x00, 0x03,
      0x00, 0x00, 0x00, 0x01, 0xB6] =
    .ok (.addFreqList {
      startFreq := 0x43FA0000, stopFreq := 0x461C4000, steps := 100, scale := .linear,
      precision := 0x40400000, amplitude := 0x38D1B717, excitation := .current, pointDelayUs := 1000,
      phaseSync := false }) ∧
  decode {} (.host .bytes) [0xB8, 0x04, 0x01, 0x00, 0x34, 0x12, 0xB8] = .ok (.startMeas 0x1234) ∧
  decode {} (.host .bytes) [0xB7, 0x03, 0x02, 0x01, 0x18, 0xB7] = .ok (.getFreqPoint 0x0118) ∧
  decode {} (.host .uint) [0xB0, 0x02, 0xB0, 0x18, 0xB0] = .ok (.frame (.send .uint) 0xB0 [0xB0, 0x18]) ∧
  ([0x01, 0x02, 0x04, 0x11, 0x81, 0x82, 0x83, 0x84, 0x90, 0x91, 0x92].map fun code =>
      decode {} (.device .unset .unset) [0x18, 0x01, code, 0x18]) =
    [.ok .sysFrameNotAcknowledge, .ok .sysTimeout, .ok .sysWakeUp, .ok .sysTcpSocketValid,
      .ok .sysNotAcknowledgeNotExecuted, .ok .sysNotAcknowledgeUnrecognized, .ok .sysCommandAcknowledge,
      .ok .sysSystemReady, .ok .sysOvercurrent, .ok .sysOvervoltage, .ok .sysDataHoldup] ∧
  decode {} (.device .unset .unset) [0x18, 0x01, 0x77, 0x18] = .ok (.sysGeneric 0x77) ∧
  decode {} (.device .ms4 .present) [0xB8, 0x0F, 0x00, 0x01, 0x00, 0x00, 0x03, 0xE8, 0x02, 0x3F, 0x80, 0x00, 0x00, 0x40,
      0x40, 0x00, 0x00, 0xB8] = .ok (.sampleMs4Present 1 1000 2 0x3F800000 0x40400000) ∧
  decode {} (.device .us5 .absent) [0xB8, 0x0F, 0x00, 0x18, 0x01, 0x02, 0x03, 0x04, 0x05, 0x38, 0xD1, 0xB7, 0x17, 0x00,
      0x00, 0x00, 0x00, 0xB8] = .ok (.sampleUs5Absent 0x0018 0x0102030405 0x38D1B717 0)

/-! ## Steps and items -/

/-- R190 and notes/assumptions/2.md: a step runs the item its input presents, whether the input was laid down or is the
environment's free value. One step takes one input, which is the model's choice (notes/assumptions/2.md). An operation
presented with its operands (R30) and a device frame that decodes make the step `exec` of that item on the state with the
input taken and, for a host operation, the transport's answer to a write set (R31). So does an operation presented in wire
form that decodes: that the host's port takes that form as well is the model's choice (notes/assumptions/14.md). -/
def Obligations.StepRunsThePresentedItem : Prop :=
  ∀ (s s1 : State) (inp : Input),
    ((∃ rest, s.script = inp :: rest ∧ s1 = { s with script := rest }) ∨
      (s.script = [] ∧ inp = Config.environment s.envIdx ∧ s1 = { s with envIdx := s.envIdx + 1 })) →
    (∀ (i : Instr) (ans : TxAnswer), inp = .op i ans → step s = exec i { s1 with txAnswer := ans }) ∧
    (∀ (bs : Bytes) (shape : ReplyShape) (ans : TxAnswer) (i : Instr), inp = .host bs shape ans →
      decode s.cfg (.host shape) bs = .ok i → step s = exec i { s1 with txAnswer := ans }) ∧
    (∀ (bs : Bytes) (i : Instr), inp = .device bs → decode s.cfg (.device s.tsMode s.crMode) bs = .ok i →
      step s = exec i s1)

/-- R70, R80, R100, R192, R193: in a state in which a command can be sent, every host-to-device row with legal operands writes
exactly its encoding, in one call, and starts its one collection cycle: a command's kind, expected opcode and reply shape
are those of its row in the command table, whatever legal table the block has; a raw frame's are `Command`, its opcode and
the shape presented. The stop is accepted while an acquisition runs, and ends it. Nothing else of the state changes. That
QUERY_PAD does not pad a raw frame without a payload is the
model's reading (notes/assumptions/11.md). -/
def Obligations.AcceptedOperationWritesItsEncoding : Prop :=
  ∀ (s : State) (i : Instr), s.cfg.legal = true → s.phase = .ready → s.abortPending = false → s.txAnswer = .ok →
    (s.acqActive = false ∨ i = .stopMeas) → i.fromDevice = false → i.wellFormed s.cfg = true →
    ∃ kind e shape, (encode s.cfg i).head? = some e ∧
      (∀ cmd, catalogueCommand i = some cmd →
        kind = cycleKindOf cmd ∧ e = (s.cfg.cmdRow cmd).opcode ∧ shape = (s.cfg.cmdRow cmd).shape) ∧
      (∀ sh opcode payload, i = .frame (.send sh) opcode payload → kind = .command ∧ e = opcode ∧ shape = sh) ∧
      exec i s = .next { s with
        txOut := s.txOut ++ [encode s.cfg i]
        acqActive := false
        cycleKind := kind
        expect := some e
        shape := shape
        rxbuf := []
        idleCnt := 0
        overflow := false
        phase := .collect }

/-- R140, R219 and notes/assumptions/3.md, the model's choice of what one device item is: every device-to-host row, in every
state, is the burst of its encoded bytes, and the decoder adds nothing to what the device sends: any bytes laid on the
device's port, a frame or not, have the effect of those bytes as one burst. -/
def Obligations.DeviceItemIsTheBurstOfItsBytes : Prop :=
  (∀ (s : State) (i : Instr), i.fromDevice = true → exec i s = .next (s.burst (encode s.cfg i))) ∧
  (∀ (s : State) (bs : Bytes) (rest : List Input), s.script = .device bs :: rest →
    step s = .next (({ s with script := rest } : State).burst bs))

/-- R115 to R120, notes/assumptions/3.md: a burst is no step of its own kind. In every state it is what the reader's own
steps do one by one: a read that returns the bytes, then as many empty reads as the threshold says. -/
def Obligations.BurstIsTheReaderStepsOneByOne : Prop :=
  ∀ (s : State) (bs : Bytes),
    Host.Core.run core (s.idleThreshold + 1) (s.reading (.data bs :: List.replicate s.idleThreshold .empty)) =
      .next (({ s with script := [] } : State).burst bs)

/-! ## The commands -/

/-- R151, R192 (D3, D4): INIT_SETUP. Under R70's command table; AcceptedOperationWritesItsEncoding says it of every other. -/
def Obligations.InitSetupStartsItsCycle : Prop :=
  ∀ s : State, s.CanSend → s.cfg.cmdTable = {} →
    (s.cfg.initSetupArgs = [0x01] →
      exec .initSetup s = .next { s with
        txOut := s.txOut ++ [[0xB6, 0x02, 0x01, 0x01, 0xB6]], cycleKind := .command,
        expect := some 0xB6, shape := .bytes, rxbuf := [], idleCnt := 0, overflow := false, phase := .collect }) ∧
    (s.cfg.initSetupArgs = [] →
      exec .initSetup s = .next { s with
        txOut := s.txOut ++ [[0xB6, 0x01, 0x01, 0xB6]], cycleKind := .command,
        expect := some 0xB6, shape := .bytes, rxbuf := [], idleCnt := 0, overflow := false, phase := .collect })

/-- R152, R192 (D5, D6): ADD_FREQ_LIST of a legal sweep writes the 40 bytes of the field list. Under R70's command table;
AcceptedOperationWritesItsEncoding says it of every other. -/
def Obligations.AddFreqListStartsItsCycle : Prop :=
  ∀ (s : State) (sp : SweepSpec), s.CanSend → s.cfg.cmdTable = {} → sp.legal = true →
    exec (.addFreqList sp) s = .next { s with
      txOut := s.txOut ++ [[0xB6, 0x25, 0x03] ++ encF32 sp.startFreq ++ encF32 sp.stopFreq ++ beBytes 4 sp.steps
        ++ [s.cfg.scaleCode sp.scale] ++ encF32 sp.precision ++ encF32 sp.amplitude
        ++ [0x01] ++ beBytes 4 sp.pointDelayUs ++ [0x02] ++ encF32 (s.cfg.boolCode sp.phaseSync)
        ++ [0x03] ++ encF32 (s.cfg.excitationCode sp.excitation) ++ [0xB6]]
      cycleKind := .command, expect := some 0xB6, shape := .bytes, rxbuf := [], idleCnt := 0, overflow := false,
      phase := .collect }

/-- R154, R192 (D3, D7): START_MEAS, the repeat count low byte first. Under R70's command table;
AcceptedOperationWritesItsEncoding says it of every other. -/
def Obligations.StartMeasStartsItsCycle : Prop :=
  ∀ (s : State) (rep : Nat), s.CanSend → s.cfg.cmdTable = {} → rep < 65536 →
    exec (.startMeas rep) s = .next { s with
      txOut := s.txOut ++ [[0xB8, 0x04, 0x01, 0x00, BitVec.ofNat 8 (rep % 256), BitVec.ofNat 8 (rep / 256), 0xB8]]
      cycleKind := .startCommand, expect := some 0xB8, shape := .samples, rxbuf := [], idleCnt := 0, overflow := false,
      phase := .collect }

/-- R155, R192 (D8, D21): STOP_MEAS is accepted whether or not an acquisition runs, and clears `ACQ_ACTIVE` once written.
Under R70's command table; AcceptedOperationWritesItsEncoding says it of every other. -/
def Obligations.StopMeasStartsItsCycle : Prop :=
  ∀ s : State, s.phase = .ready → s.abortPending = false → s.txAnswer = .ok → s.cfg.cmdTable = {} →
    exec .stopMeas s = .next { s with
      txOut := s.txOut ++ [[0xB8, 0x01, 0x00, 0xB8]], acqActive := false,
      cycleKind := .command, expect := some 0xB8, shape := .samples, rxbuf := [], idleCnt := 0, overflow := false,
      phase := .collect }

/-- R156, R158, R159, R102, R192 (D2, D9, D10): GET_NUM_FREQ, GET_FREQ_LIST, and GET_DEVICE_ID without and with the pad
byte. Under R70's command table; AcceptedOperationWritesItsEncoding says it of every other. -/
def Obligations.QueriesStartTheirCycle : Prop :=
  ∀ s : State, s.CanSend → s.cfg.cmdTable = {} →
    exec .getNumFreq s = .next { s with
      txOut := s.txOut ++ [[0xB7, 0x01, 0x01, 0xB7]], cycleKind := .command, expect := some 0xB7, shape := .uint,
      rxbuf := [], idleCnt := 0, overflow := false, phase := .collect } ∧
    exec .getFreqList s = .next { s with
      txOut := s.txOut ++ [[0xB7, 0x01, 0x04, 0xB7]], cycleKind := .command, expect := some 0xB7, shape := .floatList,
      rxbuf := [], idleCnt := 0, overflow := false, phase := .collect } ∧
    (s.cfg.queryPad = false →
      exec .getDeviceId s = .next { s with
        txOut := s.txOut ++ [[0xD1, 0x00, 0xD1]], cycleKind := .command, expect := some 0xD1, shape := .deviceId,
        rxbuf := [], idleCnt := 0, overflow := false, phase := .collect }) ∧
    (s.cfg.queryPad = true →
      exec .getDeviceId s = .next { s with
        txOut := s.txOut ++ [[0xD1, 0x00, 0x00, 0xD1]], cycleKind := .command, expect := some 0xD1, shape := .deviceId,
        rxbuf := [], idleCnt := 0, overflow := false, phase := .collect })

/-- R157, R192 (D9): GET_FREQ_POINT with a row of any width the codec has, most significant byte first. Under R70's command
table; AcceptedOperationWritesItsEncoding says it of every other. -/
def Obligations.GetFreqPointStartsItsCycle : Prop :=
  ∀ (s : State) (row : Nat), s.CanSend → s.cfg.cmdTable = {} →
    (s.cfg.rowWidth = 1 → row < 256 →
      exec (.getFreqPoint row) s = .next { s with
        txOut := s.txOut ++ [[0xB7, 0x02, 0x02, BitVec.ofNat 8 row, 0xB7]],
        cycleKind := .command, expect := some 0xB7, shape := .floatList, rxbuf := [], idleCnt := 0, overflow := false,
        phase := .collect }) ∧
    (s.cfg.rowWidth = 2 → row < 65536 →
      exec (.getFreqPoint row) s = .next { s with
        txOut := s.txOut ++ [[0xB7, 0x03, 0x02, BitVec.ofNat 8 (row / 256), BitVec.ofNat 8 (row % 256), 0xB7]],
        cycleKind := .command, expect := some 0xB7, shape := .floatList, rxbuf := [], idleCnt := 0, overflow := false,
        phase := .collect }) ∧
    (s.cfg.rowWidth = 4 → row < 2 ^ 32 →
      exec (.getFreqPoint row) s = .next { s with
        txOut := s.txOut ++ [[0xB7, 0x05, 0x02] ++ encF32 (BitVec.ofNat 32 row) ++ [0xB7]],
        cycleKind := .command, expect := some 0xB7, shape := .floatList, rxbuf := [], idleCnt := 0, overflow := false,
        phase := .collect })

/-- R193 (D32): SEND_RAW carries any opcode but 0x18, any payload the frame holds and any reply shape. That an empty payload is
not padded under QUERY_PAD is the model's reading of R102 and R193 (notes/assumptions/11.md). -/
def Obligations.SendRawStartsItsCycle : Prop :=
  ∀ (s : State) (shape : ReplyShape) (opcode : Byte) (payload : Bytes), s.CanSend → opcode ≠ 0x18 →
    payload.length ≤ 252 →
    exec (.frame (.send shape) opcode payload) s = .next { s with
      txOut := s.txOut ++ [[opcode, BitVec.ofNat 8 payload.length] ++ payload ++ [opcode]]
      cycleKind := .command, expect := some opcode, shape := shape, rxbuf := [], idleCnt := 0, overflow := false,
      phase := .collect }

/-- R153, R94, R97, R100, R192, R220 item 2: an operand that cannot be encoded ends the operation before any write, with the
error the rules name, and the order of two floats that the sweep's check asks for is the IEEE-754 one, which the model presumes
(notes/assumptions/13.md). Only the streams and `LAST_ERR` change; `PHASE` stays `Ready`. -/
def Obligations.UnencodableOperandRaisesBeforeAnyWrite : Prop :=
  (∀ a b : F32, fle32 a b = true ↔
    a.toNat % 2 ^ 31 ≤ 0x7F800000 ∧ b.toNat % 2 ^ 31 ≤ 0x7F800000 ∧
    ((a.toNat < 2 ^ 31 ∧ b.toNat < 2 ^ 31 ∧ a.toNat ≤ b.toNat) ∨
      (2 ^ 31 ≤ a.toNat ∧ 2 ^ 31 ≤ b.toNat ∧ b.toNat ≤ a.toNat) ∨
      (2 ^ 31 ≤ a.toNat ∧ b.toNat < 2 ^ 31) ∨
      (a.toNat = 0 ∧ b.toNat = 2 ^ 31))) ∧
  ∀ s : State, s.phase = .ready → s.abortPending = false → s.acqActive = false →
    (∀ sp : SweepSpec, sp.steps = 0 →
      exec (.addFreqList sp) s = .next { s with
        resultOut := s.resultOut ++ [.fail .payloadOutOfRange .steps []],
        errorOut := s.errorOut ++ [⟨.payloadOutOfRange, .steps⟩], lastErr := ⟨10, some .steps⟩ }) ∧
    (∀ sp : SweepSpec, 1 ≤ sp.steps → sp.scale = .logarithmic → fle32 sp.startFreq sp.stopFreq = false →
      exec (.addFreqList sp) s = .next { s with
        resultOut := s.resultOut ++ [.fail .payloadOutOfRange .logRange []],
        errorOut := s.errorOut ++ [⟨.payloadOutOfRange, .logRange⟩], lastErr := ⟨10, some .logRange⟩ }) ∧
    (∀ sp : SweepSpec, 2 ^ 32 ≤ sp.steps → (sp.scale = .linear ∨ fle32 sp.startFreq sp.stopFreq = true) →
      exec (.addFreqList sp) s = .next { s with
        resultOut := s.resultOut ++ [.fail .payloadOutOfRange (.range sp.steps 4) []],
        errorOut := s.errorOut ++ [⟨.payloadOutOfRange, .range sp.steps 4⟩],
        lastErr := ⟨10, some (.range sp.steps 4)⟩ }) ∧
    (∀ sp : SweepSpec, 1 ≤ sp.steps → sp.steps < 2 ^ 32 →
      (sp.scale = .linear ∨ fle32 sp.startFreq sp.stopFreq = true) → 2 ^ 32 ≤ sp.pointDelayUs →
      exec (.addFreqList sp) s = .next { s with
        resultOut := s.resultOut ++ [.fail .payloadOutOfRange (.range sp.pointDelayUs 4) []],
        errorOut := s.errorOut ++ [⟨.payloadOutOfRange, .range sp.pointDelayUs 4⟩],
        lastErr := ⟨10, some (.range sp.pointDelayUs 4)⟩ }) ∧
    (∀ rep : Nat, 65536 ≤ rep →
      exec (.startMeas rep) s = .next { s with
        resultOut := s.resultOut ++ [.fail .payloadOutOfRange (.range rep 2) []],
        errorOut := s.errorOut ++ [⟨.payloadOutOfRange, .range rep 2⟩], lastErr := ⟨10, some (.range rep 2)⟩ }) ∧
    (∀ row : Nat, (s.cfg.rowWidth = 1 ∨ s.cfg.rowWidth = 2 ∨ s.cfg.rowWidth = 4) → 256 ^ s.cfg.rowWidth ≤ row →
      exec (.getFreqPoint row) s = .next { s with
        resultOut := s.resultOut ++ [.fail .payloadOutOfRange (.range row s.cfg.rowWidth) []],
        errorOut := s.errorOut ++ [⟨.payloadOutOfRange, .range row s.cfg.rowWidth⟩],
        lastErr := ⟨10, some (.range row s.cfg.rowWidth)⟩ }) ∧
    (∀ (shape : ReplyShape) (opcode : Byte) (payload : Bytes), opcode ≠ 0x18 → 252 < payload.length →
      exec (.frame (.send shape) opcode payload) s = .next { s with
        resultOut := s.resultOut ++ [.fail .payloadTooLarge (.size payload.length) []],
        errorOut := s.errorOut ++ [⟨.payloadTooLarge, .size payload.length⟩],
        lastErr := ⟨9, some (.size payload.length)⟩ })

/-- R103, R192: a write the transport fails ends every host-to-device row with `Fail(TransportError, Write)`; nothing is
recorded as sent, no cycle starts, and a failed stop leaves `ACQ_ACTIVE` as it was. -/
def Obligations.FailedWriteEndsTheOperation : Prop :=
  ∀ (s : State) (i : Instr), s.cfg.legal = true → i.fromDevice = false → i.wellFormed s.cfg = true →
    s.phase = .ready → s.abortPending = false → (s.acqActive = false ∨ i = .stopMeas) → s.txAnswer = .fail →
    exec i s = .next { s with
      resultOut := s.resultOut ++ [.fail .transportError .write []],
      errorOut := s.errorOut ++ [⟨.transportError, .write⟩], lastErr := ⟨11, some .write⟩ }

/-- R269: an operation presented while a cycle collects is answered `Refused(Busy)` and forgotten: nothing else of the state
changes but that the input was taken. It holds for every host-to-device row with any operands, and for every operation
without a wire form. -/
def Obligations.OperationDuringCollectIsDropped : Prop :=
  ∀ (s : State) (rest : List Input), s.phase = .collect →
    (∀ i : Instr, i.fromDevice = false → exec i s = .next { s with resultOut := s.resultOut ++ [.refused .busy] }) ∧
    (∀ (i : Instr) (ans : TxAnswer), i.fromDevice = false → s.script = .op i ans :: rest →
      step s = .next { s with script := rest, txAnswer := ans, resultOut := s.resultOut ++ [.refused .busy] }) ∧
    (∀ o : LocalOp, s.script = .localOp o :: rest →
      step s = .next { s with script := rest, resultOut := s.resultOut ++ [.refused .busy] })

/-- R191 (D28): the refusal tests after the first, in their order, for the rows of the table. -/
def Obligations.RefusedRowChangesOnlyTheResults : Prop :=
  ∀ (s : State) (i : Instr), s.phase = .ready → i.fromDevice = false →
    (s.abortPending = true → exec i s = .next { s with resultOut := s.resultOut ++ [.refused .abortPending] }) ∧
    (s.abortPending = false → s.acqActive = true → i ≠ .stopMeas →
      exec i s = .next { s with resultOut := s.resultOut ++ [.refused .acqActive] }) ∧
    (∀ (shape : ReplyShape) (payload : Bytes), s.abortPending = false → s.acqActive = false →
      i = .frame (.send shape) 0x18 payload →
      exec i s = .next { s with resultOut := s.resultOut ++ [.refused .reservedOpcode] })

/-! ## The device's frames -/

/-- R134, R142, R197, R225: the acknowledgment. A fresh cycle that collects exactly this message ends `Ack`, and a
StartMeasurement cycle enters the acquisition loop. That the message is one whole burst, which ends the cycle in this one
step, is the model's choice (notes/assumptions/3.md). -/
def Obligations.CommandAckEndsTheCycle : Prop :=
  ∀ s : State, s.FreshCycle → s.expect ≠ some 0x18 → 4 ≤ s.cfg.rxbufMax → s.cfg.msgTable.legal = true →
    let t := s.cfg.msgTable
    exec .sysCommandAcknowledge s = .next { s.collected [0x18, 0x01, t.commandAcknowledge, 0x18] with
      cl := Scratch.afterMessage ⟨t.commandAcknowledge, .commandAcknowledge⟩
      acqActive := s.acqActive || decide (s.cycleKind = .startCommand)
      resultOut := s.resultOut ++ [.ack [⟨t.commandAcknowledge, .commandAcknowledge⟩]] }

/-- R142 item 1, R197, R218, R225: a fatal message ends the cycle with the error of its name and aborts the session,
whatever kind of cycle it is. That the message is one whole burst, which ends the cycle in this one step, is
the model's choice (notes/assumptions/3.md). -/
def Obligations.FatalMessageAbortsTheSession : Prop :=
  ∀ s : State, s.FreshCycle → s.expect ≠ some 0x18 → 4 ≤ s.cfg.rxbufMax → s.cfg.msgTable.legal = true →
    let t := s.cfg.msgTable
    exec .sysOvercurrent s = .next { s.collected [0x18, 0x01, t.overcurrent, 0x18] with
      cl := Scratch.afterMessage ⟨t.overcurrent, .overcurrent⟩, acqActive := false, abortPending := true,
      resultOut := s.resultOut ++ [.fail .overcurrent .deviceFault [⟨t.overcurrent, .overcurrent⟩]],
      errorOut := s.errorOut ++ [⟨.overcurrent, .deviceFault⟩], lastErr := ⟨5, some .deviceFault⟩ } ∧
    exec .sysOvervoltage s = .next { s.collected [0x18, 0x01, t.overvoltage, 0x18] with
      cl := Scratch.afterMessage ⟨t.overvoltage, .overvoltage⟩, acqActive := false, abortPending := true,
      resultOut := s.resultOut ++ [.fail .overvoltage .deviceFault [⟨t.overvoltage, .overvoltage⟩]],
      errorOut := s.errorOut ++ [⟨.overvoltage, .deviceFault⟩], lastErr := ⟨6, some .deviceFault⟩ } ∧
    exec .sysDataHoldup s = .next { s.collected [0x18, 0x01, t.dataHoldup, 0x18] with
      cl := Scratch.afterMessage ⟨t.dataHoldup, .dataHoldup⟩, acqActive := false, abortPending := true,
      resultOut := s.resultOut ++ [.fail .dataHoldup .deviceFault [⟨t.dataHoldup, .dataHoldup⟩]],
      errorOut := s.errorOut ++ [⟨.dataHoldup, .deviceFault⟩], lastErr := ⟨7, some .deviceFault⟩ }

/-- R142 item 3, R218 (D19), R225: a rejecting message ends the cycle with the error the table gives it; the session flags
keep their values (R197). That the message is one whole burst, which ends the cycle in this one step, is
the model's choice (notes/assumptions/3.md). -/
def Obligations.NackMessageFailsTheCycle : Prop :=
  ∀ s : State, s.FreshCycle → s.expect ≠ some 0x18 → 4 ≤ s.cfg.rxbufMax → s.cfg.msgTable.legal = true →
    let t := s.cfg.msgTable
    exec .sysFrameNotAcknowledge s = .next { s.collected [0x18, 0x01, t.frameNotAcknowledge, 0x18] with
      cl := Scratch.afterMessage ⟨t.frameNotAcknowledge, .frameNotAcknowledge⟩,
      resultOut := s.resultOut ++ [.fail .malformedFrame .deviceFrameNack [⟨t.frameNotAcknowledge, .frameNotAcknowledge⟩]],
      errorOut := s.errorOut ++ [⟨.malformedFrame, .deviceFrameNack⟩], lastErr := ⟨1, some .deviceFrameNack⟩ } ∧
    exec .sysTimeout s = .next { s.collected [0x18, 0x01, t.timeout, 0x18] with
      cl := Scratch.afterMessage ⟨t.timeout, .timeout⟩,
      resultOut := s.resultOut ++ [.fail .timeout .deviceTimeout [⟨t.timeout, .timeout⟩]],
      errorOut := s.errorOut ++ [⟨.timeout, .deviceTimeout⟩], lastErr := ⟨2, some .deviceTimeout⟩ } ∧
    exec .sysNotAcknowledgeNotExecuted s = .next { s.collected [0x18, 0x01, t.notAcknowledgeNotExecuted, 0x18] with
      cl := Scratch.afterMessage ⟨t.notAcknowledgeNotExecuted, .notAcknowledgeNotExecuted⟩,
      resultOut := s.resultOut ++ [.fail .notExecuted .deviceNack [⟨t.notAcknowledgeNotExecuted, .notAcknowledgeNotExecuted⟩]],
      errorOut := s.errorOut ++ [⟨.notExecuted, .deviceNack⟩], lastErr := ⟨4, some .deviceNack⟩ } ∧
    exec .sysNotAcknowledgeUnrecognized s = .next { s.collected [0x18, 0x01, t.notAcknowledgeUnrecognized, 0x18] with
      cl := Scratch.afterMessage ⟨t.notAcknowledgeUnrecognized, .notAcknowledgeUnrecognized⟩,
      resultOut := s.resultOut ++ [.fail .unrecognizedCommand .deviceNack
        [⟨t.notAcknowledgeUnrecognized, .notAcknowledgeUnrecognized⟩]],
      errorOut := s.errorOut ++ [⟨.unrecognizedCommand, .deviceNack⟩], lastErr := ⟨3, some .deviceNack⟩ }

/-- R142 item 5, R218 (D19): an informational message alone ends the cycle with `Notice`, and nothing else. That the message
is one whole burst, which ends the cycle in this one step, is the model's choice (notes/assumptions/3.md). -/
def Obligations.InfoMessageIsANotice : Prop :=
  ∀ s : State, s.FreshCycle → s.expect ≠ some 0x18 → 4 ≤ s.cfg.rxbufMax → s.cfg.msgTable.legal = true →
    let t := s.cfg.msgTable
    exec .sysWakeUp s = .next { s.collected [0x18, 0x01, t.wakeUp, 0x18] with
      cl := Scratch.afterMessage ⟨t.wakeUp, .wakeUp⟩, resultOut := s.resultOut ++ [.notice [⟨t.wakeUp, .wakeUp⟩]] } ∧
    exec .sysTcpSocketValid s = .next { s.collected [0x18, 0x01, t.tcpSocketValid, 0x18] with
      cl := Scratch.afterMessage ⟨t.tcpSocketValid, .tcpSocketValid⟩,
      resultOut := s.resultOut ++ [.notice [⟨t.tcpSocketValid, .tcpSocketValid⟩]] } ∧
    exec .sysSystemReady s = .next { s.collected [0x18, 0x01, t.systemReady, 0x18] with
      cl := Scratch.afterMessage ⟨t.systemReady, .systemReady⟩,
      resultOut := s.resultOut ++ [.notice [⟨t.systemReady, .systemReady⟩]] }

/-- R133, R134, R142 item 2 (D14): the generic message. A code outside the message table fails the cycle with
`MalformedFrame(UnknownSysCode)`, 0x18 itself among them; a code of the table has the effect of its own row. That the message
is one whole burst, which ends the cycle in this one step, is the model's choice (notes/assumptions/3.md). -/
def Obligations.GenericMessageByItsCode : Prop :=
  (∀ (s : State) (code : Byte), s.FreshCycle → s.expect ≠ some 0x18 → 4 ≤ s.cfg.rxbufMax →
    sysOf s.cfg code = .sysGeneric code →
    exec (.sysGeneric code) s = .next { s.collected [0x18, 0x01, code, 0x18] with
      cl := Scratch.afterMessage ⟨code, .unknown⟩,
      resultOut := s.resultOut ++ [.fail .malformedFrame (.unknownSysCode code) [⟨code, .unknown⟩]],
      errorOut := s.errorOut ++ [⟨.malformedFrame, .unknownSysCode code⟩],
      lastErr := ⟨1, some (.unknownSysCode code)⟩ }) ∧
  (∀ (s : State) (code : Byte), exec (.sysGeneric code) s = exec (sysOf s.cfg code) s)

/-- R71, R180, R198, R197 (D10): a sample frame in a fresh cycle of shape `Samples`, under the reply format of its row, is
delivered once on `SAMPLE_OUT` and once in the outcome; a StartMeasurement cycle enters the acquisition loop. That
the frame is one whole burst, which ends the cycle in this one step, is the model's choice (notes/assumptions/3.md), and
so is the timestamp's form (notes/assumptions/8.md). -/
def Obligations.SampleRowDeliversItsSample : Prop :=
  ∀ (s : State) (p : BitVec 16) (g : Byte) (t4 : BitVec 32) (t5 : BitVec 40) (x y : F32), s.FreshCycle →
    s.expect = some 0xB8 → s.shape = .samples → 19 ≤ s.cfg.rxbufMax →
    (s.tsMode = .off → s.crMode = .absent →
      exec (.sampleNoneAbsent p x y) s = .next { s.collected (encode s.cfg (.sampleNoneAbsent p x y)) with
        acqActive := s.acqActive || decide (s.cycleKind = .startCommand),
        sampleOut := s.sampleOut ++ [⟨p, none, none, x, y⟩],
        resultOut := s.resultOut ++ [.data (.samples [⟨p, none, none, x, y⟩]) []] }) ∧
    (s.tsMode = .off → s.crMode = .present →
      exec (.sampleNonePresent p g x y) s = .next { s.collected (encode s.cfg (.sampleNonePresent p g x y)) with
        acqActive := s.acqActive || decide (s.cycleKind = .startCommand),
        sampleOut := s.sampleOut ++ [⟨p, none, some g, x, y⟩],
        resultOut := s.resultOut ++ [.data (.samples [⟨p, none, some g, x, y⟩]) []] }) ∧
    (s.tsMode = .ms4 → s.crMode = .absent →
      exec (.sampleMs4Absent p t4 x y) s = .next { s.collected (encode s.cfg (.sampleMs4Absent p t4 x y)) with
        acqActive := s.acqActive || decide (s.cycleKind = .startCommand),
        sampleOut := s.sampleOut ++ [⟨p, some (t4.setWidth 40), none, x, y⟩],
        resultOut := s.resultOut ++ [.data (.samples [⟨p, some (t4.setWidth 40), none, x, y⟩]) []] }) ∧
    (s.tsMode = .ms4 → s.crMode = .present →
      exec (.sampleMs4Present p t4 g x y) s = .next { s.collected (encode s.cfg (.sampleMs4Present p t4 g x y)) with
        acqActive := s.acqActive || decide (s.cycleKind = .startCommand),
        sampleOut := s.sampleOut ++ [⟨p, some (t4.setWidth 40), some g, x, y⟩],
        resultOut := s.resultOut ++ [.data (.samples [⟨p, some (t4.setWidth 40), some g, x, y⟩]) []] }) ∧
    (s.tsMode = .us5 → s.crMode = .absent →
      exec (.sampleUs5Absent p t5 x y) s = .next { s.collected (encode s.cfg (.sampleUs5Absent p t5 x y)) with
        acqActive := s.acqActive || decide (s.cycleKind = .startCommand),
        sampleOut := s.sampleOut ++ [⟨p, some t5, none, x, y⟩],
        resultOut := s.resultOut ++ [.data (.samples [⟨p, some t5, none, x, y⟩]) []] }) ∧
    (s.tsMode = .us5 → s.crMode = .present →
      exec (.sampleUs5Present p t5 g x y) s = .next { s.collected (encode s.cfg (.sampleUs5Present p t5 g x y)) with
        acqActive := s.acqActive || decide (s.cycleKind = .startCommand),
        sampleOut := s.sampleOut ++ [⟨p, some t5, some g, x, y⟩],
        resultOut := s.resultOut ++ [.data (.samples [⟨p, some t5, some g, x, y⟩]) []] })

/-- R180 (D25), R182, R198: any of the six sample rows under a reply format that is not its own. Under none set, or one whose
samples have another size, the cycle fails and no sample is emitted. Under the other format of the 15-byte pair the length
test passes and the sample is delivered with the fields that format reads, with no error. That the frame is one whole burst,
which ends the cycle in this one step, is the model's choice (notes/assumptions/3.md). -/
def Obligations.SampleUnderAnotherFormatFails : Prop :=
  ∀ (s : State) (i : Instr), s.FreshCycle → s.expect = some 0xB8 → s.shape = .samples → 19 ≤ s.cfg.rxbufMax →
    (isSampleRow i = true → (s.tsMode = .unset ∨ s.crMode = .unset) →
      exec i s = .next (s.failedWith (encode s.cfg i) .malformedFrame .formatUnset)) ∧
    (isSampleRow i = true → s.tsMode ≠ .unset → s.crMode ≠ .unset →
      (encode s.cfg i).length ≠ 3 + (2 + tsWidth s.tsMode + crWidth s.crMode + 8) →
      exec i s = .next (s.failedWith (encode s.cfg i) .malformedFrame .sampleLength)) ∧
    (∀ (p : BitVec 16) (time : BitVec 32) (g : Byte) (x y : F32), s.tsMode = .us5 → s.crMode = .absent →
      i = .sampleMs4Present p time g x y →
      exec i s = .next { s.deliveredWith (encode s.cfg i) (.samples [⟨p, some (time ++ g), none, x, y⟩]) with
        sampleOut := s.sampleOut ++ [⟨p, some (time ++ g), none, x, y⟩] }) ∧
    (∀ (p : BitVec 16) (time : BitVec 32) (g : Byte) (x y : F32), s.tsMode = .ms4 → s.crMode = .present →
      i = .sampleUs5Absent p (time ++ g) x y →
      exec i s = .next { s.deliveredWith (encode s.cfg i) (.samples [⟨p, some (time.setWidth 40), some g, x, y⟩]) with
        sampleOut := s.sampleOut ++ [⟨p, some (time.setWidth 40), some g, x, y⟩] })

/-- R104, R105, R140, R143, R165 to R169, R198: a received frame of the expected opcode, its payload of any size a length byte
can say (253 to 255 included, R62), is delivered as the value its cycle's reply shape makes of it, or fails with the error
the shape names. The identity's bytes are those of R171's layout. The same of any number of frames in one burst, under any
layout (R108, D38): the joined payloads make one value, but under `Samples` each frame is one sample, emitted in arrival
order, and the first frame that is none drops itself and every later one and is the cycle's failure. That the frame, or the
frames, are one whole burst, which ends the cycle in this one step, is the model's choice (notes/assumptions/3.md). -/
def Obligations.ReceivedFrameDeliversItsPayload : Prop :=
  (∀ (s : State) (e : Byte) (p : Bytes), s.FreshCycle → s.expect = some e → p.length ≤ 255 →
    p.length + 3 ≤ s.cfg.rxbufMax →
    let burst := [e, BitVec.ofNat 8 p.length] ++ p ++ [e]
    (s.shape = .bytes → exec (.frame .receive e p) s = .next (s.deliveredWith burst (.bytes p))) ∧
    (s.shape = .uint → (p.length = 1 ∨ p.length = 2 ∨ p.length = 4) →
      exec (.frame .receive e p) s = .next (s.deliveredWith burst (.uint (beNat p)))) ∧
    (s.shape = .uint → p.length ≠ 1 → p.length ≠ 2 → p.length ≠ 4 →
      exec (.frame .receive e p) s = .next (s.failedWith burst .malformedFrame .fieldShort)) ∧
    (∀ fs : List F32, s.shape = .floatList → p = fs.flatMap encF32 →
      exec (.frame .receive e p) s = .next (s.deliveredWith burst (.floatList fs))) ∧
    (s.shape = .floatList → p.length % 4 ≠ 0 →
      exec (.frame .receive e p) s = .next (s.failedWith burst .malformedFrame .fieldShort)) ∧
    (∀ (v d1 d0 m0 m1 m2 m3 : Byte) (rest : Bytes), s.shape = .deviceId → s.cfg.devId = {} →
      p = v :: d1 :: d0 :: m0 :: m1 :: m2 :: m3 :: rest →
      exec (.frame .receive e p) s = .next (s.deliveredWith burst (.deviceId
        { infoVersion := v, deviceId := BitVec.ofNat 16 (d1.toNat * 256 + d0.toNat),
          serialNumber := BitVec.ofNat 16 (m1.toNat * 256 + m0.toNat), deliveryYearOffset := m3,
          deliveryMonth := m2 }))) ∧
    (s.shape = .deviceId → s.cfg.devId = {} → p.length < 7 →
      exec (.frame .receive e p) s = .next (s.failedWith burst .malformedFrame .fieldShort)) ∧
    (∀ smp, s.shape = .samples → decodeSample p s.tsMode s.crMode = .ok smp →
      exec (.frame .receive e p) s = .next { s.deliveredWith burst (.samples [smp]) with
        sampleOut := s.sampleOut ++ [smp] }) ∧
    (∀ err, s.shape = .samples → decodeSample p s.tsMode s.crMode = .error err →
      exec (.frame .receive e p) s = .next (s.failedWith burst err.kind err.info))) ∧
  (∀ (s : State) (e : Byte) (ps : List Bytes) (rest : List Input), s.FreshCycle → s.expect = some e → ps ≠ [] →
    (∀ p ∈ ps, p.length ≤ 255) → (framesOf e ps).length ≤ s.cfg.rxbufMax → s.script = .device (framesOf e ps) :: rest →
    let t : State := { s with script := rest }
    (∀ value samples, ReplyHolds s.cfg s.tsMode s.crMode s.shape ps value samples →
      step s = .next { t.deliveredWith (framesOf e ps) value with sampleOut := s.sampleOut ++ samples }) ∧
    (∀ err samples, ReplyBreaks s.cfg s.tsMode s.crMode s.shape ps err samples →
      step s = .next { t.failedWith (framesOf e ps) err.kind err.info with sampleOut := s.sampleOut ++ samples }))

/-- R39, R219, R262: what the device sends while no cycle runs changes nothing but the bytes the transport holds. -/
def Obligations.DeviceRowInReadyWaits : Prop :=
  ∀ (s : State) (i : Instr), s.phase = .ready → i.fromDevice = true →
    exec i s = .next { s with waiting := s.waiting ++ encode s.cfg i }

/-! ## The codecs -/

/-- R92: the four bytes of a float32 pattern, bits 31 to 24 first, for every pattern. -/
def Obligations.FloatIsSentMostSignificantByteFirst : Prop :=
  (∀ x : F32, (encF32 x).map BitVec.toNat =
    [x.toNat / 2 ^ 24, x.toNat / 2 ^ 16 % 256, x.toNat / 2 ^ 8 % 256, x.toNat % 256]) ∧
  encF32 0x43FA0000 = [0x43, 0xFA, 0x00, 0x00]

/-- R91, R98 (D42): reading a float back, for every pattern (NaNs included) and every four bytes; later bytes are ignored,
fewer are a short field. -/
def Obligations.FloatCodecRoundTrip : Prop :=
  (∀ (x : F32) (rest : Bytes), decF32 (encF32 x ++ rest) = .ok x) ∧
  (∀ bs : Bytes, bs.length = 4 → ∃ x, decF32 bs = .ok x ∧ encF32 x = bs) ∧
  (∀ bs : Bytes, bs.length < 4 → decF32 bs = .error ⟨.malformedFrame, .fieldShort⟩)

/-- R94, R95, R98: the integer codec is exact on its widths and declines or raises elsewhere. -/
def Obligations.IntegerCodecRoundTrip : Prop :=
  (∀ x w : Nat, (w = 1 ∨ w = 2 ∨ w = 4) → x < 2 ^ (8 * w) → ∃ bs, encUint x w = .ok bs ∧ bs.length = w ∧ decUint bs = .ok x) ∧
  (∀ x w : Nat, (w = 1 ∨ w = 2 ∨ w = 4) → 2 ^ (8 * w) ≤ x →
    encUint x w = .error (.raise ⟨.payloadOutOfRange, .range x w⟩)) ∧
  (∀ x w : Nat, w ≠ 1 → w ≠ 2 → w ≠ 4 → encUint x w = .error (.refuse .badWidth)) ∧
  (∀ bs : Bytes, (bs.length = 1 ∨ bs.length = 2 ∨ bs.length = 4) →
    ∃ x, decUint bs = .ok x ∧ x < 2 ^ (8 * bs.length) ∧ encUint x bs.length = .ok bs) ∧
  (∀ bs : Bytes, bs.length ≠ 1 → bs.length ≠ 2 → bs.length ≠ 4 → decUint bs = .error ⟨.malformedFrame, .fieldShort⟩)

/-- R100: `BUILD`. -/
def Obligations.BuildMakesTheFrameOrRaises : Prop :=
  ∀ (opcode : Byte) (payload : Bytes),
    (payload.length ≤ 252 →
      build opcode payload = .ok ([opcode, BitVec.ofNat 8 payload.length] ++ payload ++ [opcode])) ∧
    (253 ≤ payload.length → build opcode payload = .error (.raise ⟨.payloadTooLarge, .size payload.length⟩))

/-- R109, R105: the parser takes a concatenation of built frames apart into their payloads, payload bytes equal to the
opcode included. -/
def Obligations.ParserInvertsBuild : Prop :=
  ∀ (e : Byte) (ps : List Bytes) (rest : Bytes), (∀ p ∈ ps, p.length ≤ 252) → rest.head? ≠ some e →
    ∃ fs, ps.mapM (build e) = .ok fs ∧ parseFrames (fs.flatten ++ rest) e = .ok ps rest

/-- R105: what the parser accepts is a concatenation of whole frames of the expected opcode and a tail that does not begin
with it; there is no other reading. R104: the single-frame check holds exactly of the buffers the parser reads as one
frame and nothing more. After whole frames, bytes that begin with the opcode and are no whole frame are an error:
`Truncated` where they end too early, `TrailMismatch` where another byte stands at the trailing opcode's place, of the
kind that says whether a whole frame came before. -/
def Obligations.ParserAcceptsOnlyWholeFrames : Prop :=
  (∀ (b : Bytes) (e : Byte) (frames : List Bytes) (rest : Bytes), parseFrames b e = .ok frames rest →
    b = (frames.flatMap fun p => [e, BitVec.ofNat 8 p.length] ++ p ++ [e]) ++ rest ∧ rest.head? ≠ some e ∧
    (∀ p ∈ frames, p.length ≤ 255) ∧ (b.head? = some e → frames ≠ [])) ∧
  (∀ (b : Bytes) (e : Byte), frameOk b e = true ↔ ∃ p, parseFrames b e = .ok [p] []) ∧
  (∀ (e len : Byte) (ps : List Bytes) (body : Bytes), (∀ p ∈ ps, p.length ≤ 255) →
    let whole := ps.flatMap fun p => [e, BitVec.ofNat 8 p.length] ++ p ++ [e]
    let kind := if ps = [] then ErrorKind.malformedFrame else .incompleteMultiFrameReply
    parseFrames (whole ++ [e]) e = .err ⟨kind, .truncated⟩ ∧
    (body.length ≤ len.toNat → parseFrames (whole ++ e :: len :: body) e = .err ⟨kind, .truncated⟩) ∧
    (∀ b, body[len.toNat]? = some b → b ≠ e →
      parseFrames (whole ++ e :: len :: body) e = .err ⟨kind, .trailMismatch⟩))

/-- R74, R108, R143, R165 to R169, R198 (D10, D38): a reply of any number of same-opcode frames. Under every shape but
`Samples` the value is that of the payloads joined in arrival order, wherever they were cut and with nothing removed from
them; under `Samples` each frame is one sample, and those before the first that is none are emitted. In particular a float
list cut at any byte is decoded to the original list. -/
def Obligations.MultiFrameReplyIsReassembled : Prop :=
  ∀ (cfg : Config) (ts : TsMode) (cr : CrMode) (cl : Scratch) (kind : CycleKind) (e : Byte) (ps : List Bytes), ps ≠ [] →
    (∀ p ∈ ps, p.length ≤ 255) →
    (∀ shape value samples, ReplyHolds cfg ts cr shape ps value samples →
      classify cfg ts cr cl (framesOf e ps) (some e) shape kind false =
        { report := .data value [], samples := samples, cl := cl }) ∧
    (∀ shape err samples, ReplyBreaks cfg ts cr shape ps err samples →
      classify cfg ts cr cl (framesOf e ps) (some e) shape kind false =
        { report := .fail err.kind err.info [], samples := samples, cl := cl }) ∧
    (∀ fs : List F32, ps.flatten = fs.flatMap encF32 →
      classify cfg ts cr cl (framesOf e ps) (some e) .floatList kind false =
        { report := .data (.floatList fs) [], samples := [], cl := cl })

/-- R169, R171 (D11): the identity under the default layout, the four middle bytes through the double reversal; bytes after
the seventh are ignored, fewer than seven are a short field. Under any other layout each field comes from the places the
layout gives its bytes, the two bytes of each pair of middle bytes exchanged, and with an odd number of them (D12) the first
stands alone and the pairs begin after it; a payload that does not hold all the places is a short field. The form of a layout
is the model's (notes/assumptions/12.md). -/
def Obligations.DeviceIdentityFields : Prop :=
  (∀ (a b c d e f g : Byte) (rest : Bytes),
    decodeDeviceId {} (a :: b :: c :: d :: e :: f :: g :: rest) =
      .ok (.deviceId { infoVersion := a, deviceId := BitVec.ofNat 16 (b.toNat * 256 + c.toNat),
                       serialNumber := BitVec.ofNat 16 (e.toNat * 256 + d.toNat), deliveryYearOffset := g,
                       deliveryMonth := f })) ∧
  (∀ p : Bytes, p.length < 7 → decodeDeviceId {} p = .error ⟨.malformedFrame, .fieldShort⟩) ∧
  (∀ (l : DevIdLayout) (p : Bytes),
    (p.length ≤ l.versionAt ∨ p.length ≤ l.deviceIdHighAt ∨ p.length ≤ l.deviceIdLowAt ∨
      p.length < l.middleAt + l.middleSize) →
    decodeDeviceId l p = .error ⟨.malformedFrame, .fieldShort⟩) ∧
  (∀ (l : DevIdLayout) (p : Bytes), l.legal = true → l.versionAt < p.length → l.deviceIdHighAt < p.length →
    l.deviceIdLowAt < p.length → l.middleAt + l.middleSize ≤ p.length →
    let byte := fun k => p.getD k 0
    let middle := fun k =>
      if l.middleSize % 2 = 1 ∧ k = 0 then byte l.middleAt
      else byte (l.middleAt + (if (k + l.middleSize) % 2 = 0 then k + 1 else k - 1))
    decodeDeviceId l p =
      .ok (.deviceId
        { infoVersion := byte l.versionAt
          deviceId := BitVec.ofNat 16 ((byte l.deviceIdHighAt).toNat * 256 + (byte l.deviceIdLowAt).toNat)
          serialNumber := BitVec.ofNat 16 ((middle l.serialHighAt).toNat * 256 + (middle l.serialLowAt).toNat)
          deliveryYearOffset := middle l.yearAt
          deliveryMonth := middle l.monthAt }))

/-- R184, R180: decoding and the device's encoding of a sample are inverse to each other under every reply format that is
set, and the decoder accepts exactly the lengths of R181. -/
def Obligations.SampleCodecRoundTrip : Prop :=
  (∀ (smp : Sample) (ts : TsMode) (cr : CrMode), ts ≠ .unset → cr ≠ .unset →
    (smp.currentRange.isSome = true ↔ cr = .present) → (smp.timestamp.isSome = true ↔ ts ≠ .off) →
    (ts = .ms4 → ∀ t, smp.timestamp = some t → t.toNat < 2 ^ 32) →
    decodeSample (encSample smp ts) ts cr = .ok smp) ∧
  (∀ (p : Bytes) (ts : TsMode) (cr : CrMode) (smp : Sample), decodeSample p ts cr = .ok smp → encSample smp ts = p) ∧
  (∀ (p : Bytes) (ts : TsMode) (cr : CrMode), ts ≠ .unset → cr ≠ .unset →
    ((∃ smp, decodeSample p ts cr = .ok smp) ↔ p.length = 2 + tsWidth ts + crWidth cr + 8))

/-- R170, R172 (D12): the double reversal swaps the two bytes of each group and keeps the groups in order; it undoes itself
on even sizes, and an odd first byte stands alone in front. -/
def Obligations.DoubleReversalSwapsPairs : Prop :=
  doubleReversal [] = [] ∧
  (∀ (a b : Byte) (m : Bytes), m.length % 2 = 0 → doubleReversal (a :: b :: m) = [b, a] :: doubleReversal m) ∧
  (∀ (a : Byte) (m : Bytes), m.length % 2 = 0 → doubleReversal (a :: m) = [a] :: doubleReversal m) ∧
  (∀ m : Bytes, m.length % 2 = 0 → (doubleReversal (doubleReversal m).flatten).flatten = m)

/-! ## The scan -/

/-- R130, R131, R133: in `Seeking` only 0x18 opens a candidate; the first byte in `InMessage` is held as the code whatever its
value; every transition consumes its one byte. -/
def Obligations.ScanOpensAndHoldsTheCode : Prop :=
  ∀ (t : MsgTable) (c : Scratch) (b : Byte),
    (c.state = .seeking → b = 0x18 →
      scanByte t c b = { c with state := .inLength, entered := true, pos := c.pos + 1 }) ∧
    (c.state = .seeking → b ≠ 0x18 → scanByte t c b = { c with pos := c.pos + 1 }) ∧
    (c.state = .inMessage → c.code = none → scanByte t c b = { c with code := some b, pos := c.pos + 1 })

/-- R132, R134 (D13, D14): the byte after the token, and the search for the closing token. -/
def Obligations.ScanTestsTheLengthAndClosesTheMessage : Prop :=
  ∀ (t : MsgTable) (c : Scratch) (b code : Byte),
    (c.state = .inLength → b = 0x01 → scanByte t c b = { c with state := .inMessage, code := none, pos := c.pos + 1 }) ∧
    (c.state = .inLength → b ≠ 0x01 → scanByte t c b = { c with state := .seeking, pos := c.pos + 1 }) ∧
    (c.state = .inMessage → c.code = some code → b = 0x18 →
      scanByte t c b = { c with state := .seeking, code := none, msgs := c.msgs ++ [⟨code, t.lookup code⟩],
                                pos := c.pos + 1 }) ∧
    (c.state = .inMessage → c.code = some code → b ≠ 0x18 → scanByte t c b = { c with pos := c.pos + 1 })

/-- R130, R134, R136, R63: a scan consumes every byte exactly once and ends in `Done`; its verdict is `Raw` exactly when no
byte is the token; and messages sent one after another in one burst are all found, in arrival order, whatever their
codes. -/
def Obligations.ScanVerdicts : Prop :=
  (∀ (t : MsgTable) (b : Bytes),
    (scan t b).pos = b.length ∧ (scan t b).state = .done ∧ ((scan t b).verdict = .raw ↔ (0x18 : Byte) ∉ b)) ∧
  (∀ (t : MsgTable) (codes : List Byte), codes ≠ [] →
    (scan t (codes.flatMap fun c => [0x18, 0x01, c, 0x18])).verdict = .messages (codes.map fun c => ⟨c, t.lookup c⟩))

/-- R142 (D18): fatal before unknown before nack before ack before info, the first in arrival order within a class; the whole
list is kept. -/
def Obligations.FirstMessageOfTheHighestClassDecides : Prop :=
  ∀ msgs : List SysMsg,
    (∀ pre m post e, msgs = pre ++ m :: post → (∀ x ∈ pre, fatalError x.name = none) → fatalError m.name = some e →
      evaluate msgs = .fail e.kind e.info msgs) ∧
    (∀ pre m post, msgs = pre ++ m :: post → (∀ x ∈ msgs, fatalError x.name = none) → (∀ x ∈ pre, x.name ≠ .unknown) →
      m.name = .unknown → evaluate msgs = .fail .malformedFrame (.unknownSysCode m.code) msgs) ∧
    (∀ pre m post e, msgs = pre ++ m :: post → (∀ x ∈ msgs, fatalError x.name = none ∧ x.name ≠ .unknown) →
      (∀ x ∈ pre, nackError x.name = none) → nackError m.name = some e → evaluate msgs = .fail e.kind e.info msgs) ∧
    ((∀ x ∈ msgs, fatalError x.name = none ∧ x.name ≠ .unknown ∧ nackError x.name = none) →
      (∃ x ∈ msgs, x.name = .commandAcknowledge) → evaluate msgs = .ack msgs) ∧
    ((∀ x ∈ msgs, fatalError x.name = none ∧ x.name ≠ .unknown ∧ nackError x.name = none ∧
      x.name ≠ .commandAcknowledge) → evaluate msgs = .notice msgs)

/-- R137: the source's two worked examples: the state after each byte, the verdict, and what it comes to. -/
def Obligations.SourceScanExamples : Prop :=
  ([[0x18], [0x18, 0x01], [0x18, 0x01, 0x83], [0x18, 0x01, 0x83, 0x18]].map fun b =>
      ((b.foldl (scanByte {}) Scratch.initial).state, (b.foldl (scanByte {}) Scratch.initial).code,
        (b.foldl (scanByte {}) Scratch.initial).msgs)) =
    [(.inLength, none, []), (.inMessage, none, []), (.inMessage, some 0x83, []),
      (.seeking, none, [⟨0x83, .commandAcknowledge⟩])] ∧
  (scan {} [0x18, 0x01, 0x83, 0x18]).verdict = .messages [⟨0x83, .commandAcknowledge⟩] ∧
  ([[0x18], [0x18, 0x01], [0x18, 0x01, 0x90], [0x18, 0x01, 0x90, 0x18]].map fun b =>
      ((b.foldl (scanByte {}) Scratch.initial).state, (b.foldl (scanByte {}) Scratch.initial).code,
        (b.foldl (scanByte {}) Scratch.initial).msgs)) =
    [(.inLength, none, []), (.inMessage, none, []), (.inMessage, some 0x90, []),
      (.seeking, none, [⟨0x90, .overcurrent⟩])] ∧
  (scan {} [0x18, 0x01, 0x90, 0x18]).verdict = .messages [⟨0x90, .overcurrent⟩] ∧
  evaluate [⟨0x90, .overcurrent⟩] = .fail .overcurrent .deviceFault [⟨0x90, .overcurrent⟩] ∧
  ErrorKind.isFatal .overcurrent = true

/-! ## The reader -/

/-- R115: `read_until_idle`. From the start of a cycle, a run of answers without a failure whose last `T` are empty, and no
shorter part of which ends in `T` empty ones, keeps the cycle collecting up to its last answer and then ends it, with
`RXBUF` the concatenation of all bytes delivered, in delivery order, cut to the buffer's capacity if `OVERFLOW` was set. -/
def Obligations.CycleEndsAtTheFirstIdleRun : Prop :=
  ∀ (s : State) (as : List ReadAnswer), s.phase = .collect → s.idleCnt = 0 → s.overflow = false → s.rxbuf = [] →
    s.waiting = [] → 1 ≤ s.idleThreshold → (∀ a ∈ as, a ≠ .fail ∧ a ≠ .data []) →
    List.replicate s.idleThreshold .empty <:+ as →
    (∀ k, k < as.length → ¬ (List.replicate s.idleThreshold .empty <:+ as.take k)) →
    (∀ k, k < as.length →
      ∃ t, Host.Core.run core k (s.reading as) = .next t ∧ State.phase t = .collect ∧
        State.resultOut t = s.resultOut) ∧
    (∃ t, Host.Core.run core as.length (s.reading as) = .next t ∧ State.phase t = .ready ∧
      State.rxbuf t = (dataOf as).take s.cfg.rxbufMax ∧
      State.overflow t = decide (s.cfg.rxbufMax < (dataOf as).length) ∧ ∃ o, State.resultOut t = s.resultOut ++ [o])

/-- R261: a stream without a gap never ends a cycle. In a run of reads that never finds `IDLE_THRESHOLD` empty ones in a row,
the empty reads counted so far included, however long it is, the cycle still collects, nothing was delivered or sent, what
the buffer cannot hold was dropped, and every host operation presented there is answered `Refused(Busy)`, STOP_MEAS
included. That bytes the transport already holds come in the first read, whole and ahead of new ones, and make that read no
empty one, is the model's choice (notes/assumptions/4.md). -/
def Obligations.StreamWithoutGapNeverEndsTheCycle : Prop :=
  ∀ (s : State) (as : List ReadAnswer), s.phase = .collect → s.memWf = true →
    (∀ a ∈ as, a ≠ .fail ∧ a ≠ .data []) →
    let found := if s.waiting ≠ [] ∧ as.head? = some .empty then .data s.waiting :: as.tail else as
    ¬ (List.replicate s.idleThreshold .empty <:+: List.replicate s.idleCnt .empty ++ found) →
    ∃ t, Host.Core.run core as.length (s.reading as) = .next t ∧ State.phase t = .collect ∧
      (as ≠ [] → State.rxbuf t = (s.rxbuf ++ s.waiting ++ dataOf as).take s.cfg.rxbufMax) ∧
      State.resultOut t = s.resultOut ∧ State.sampleOut t = s.sampleOut ∧ State.errorOut t = s.errorOut ∧
      State.txOut t = s.txOut ∧
      (∀ i : Instr, i.fromDevice = false →
        exec i t = .next { t with resultOut := s.resultOut ++ [.refused .busy] }) ∧
      (∀ o : LocalOp, t.runLocal o = { t with resultOut := s.resultOut ++ [.refused .busy] })

/-- R39, R44, R118, R262, R45 (D23): a read that does not fail returns the bytes the transport already held, in front of the
new ones, and takes them out of it: it appends what fits, records an overflow otherwise, and resets the idle counter. An
answer without new bytes is such a read too as long as the transport holds any. So bytes left from before a cycle head its
buffer, which starting the cycle left in the transport. That held bytes come in one read is the model's choice
(notes/assumptions/4.md). -/
def Obligations.DataReadAppendsWhatFits : Prop :=
  ∀ (s : State) (a : ReadAnswer) (fresh : Bytes) (rest : List Input), s.phase = .collect →
    ((a = .empty ∧ fresh = []) ∨ a = .data fresh) → s.waiting ++ fresh ≠ [] → s.script = .read a :: rest →
    ((s.waiting ++ fresh).length ≤ s.cfg.rxbufMax - s.rxbuf.length →
      step s = .next { s with script := rest, waiting := [], rxbuf := s.rxbuf ++ (s.waiting ++ fresh), idleCnt := 0 }) ∧
    (s.cfg.rxbufMax - s.rxbuf.length < (s.waiting ++ fresh).length →
      step s = .next { s with
        script := rest, waiting := [],
        rxbuf := s.rxbuf ++ (s.waiting ++ fresh).take (s.cfg.rxbufMax - s.rxbuf.length), overflow := true, idleCnt := 0 })

/-- R119: an empty read raises the idle counter, and at the threshold completes the cycle; with the threshold 1 of reset the
very first empty read does. -/
def Obligations.EmptyReadCountsAndCompletes : Prop :=
  ∀ (s : State) (rest : List Input), s.phase = .collect → s.waiting = [] → s.script = .read .empty :: rest →
    (s.idleCnt + 1 < s.idleThreshold → step s = .next { s with script := rest, idleCnt := s.idleCnt + 1 }) ∧
    (s.idleThreshold ≤ s.idleCnt + 1 →
      step s = .next ({ s with script := rest, idleCnt := s.idleCnt + 1 } : State).completeCycle) ∧
    (s.idleThreshold = 1 → ∃ t o, step s = .next t ∧ t.phase = .ready ∧ t.rxbuf = s.rxbuf ∧
      t.resultOut = s.resultOut ++ [o])

/-- R121 (D34): a failing read discards what was collected and ends the cycle; in an acquisition it aborts the session. The
bytes the transport holds stay there, which the model reads from R121 (notes/assumptions/10.md). -/
def Obligations.FailedReadEndsTheCycle : Prop :=
  ∀ (s : State) (rest : List Input), s.phase = .collect → s.script = .read .fail :: rest →
    ((s.cycleKind = .acquisition ∨ s.acqActive = true) →
      step s = .next { s with
        script := rest, rxbuf := [], acqActive := false, abortPending := true, phase := .ready,
        resultOut := s.resultOut ++ [.fail .transportError .read []],
        errorOut := s.errorOut ++ [⟨.transportError, .read⟩], lastErr := ⟨11, some .read⟩ }) ∧
    (s.cycleKind ≠ .acquisition → s.acqActive = false →
      step s = .next { s with
        script := rest, rxbuf := [], phase := .ready,
        resultOut := s.resultOut ++ [.fail .transportError .read []],
        errorOut := s.errorOut ++ [⟨.transportError, .read⟩], lastErr := ⟨11, some .read⟩ })

/-- R106, R120, R140 to R144, R197, R225 (D15, D17, D18, D21 to D23): how a cycle without a usable reply ends. One whose buffer
overflowed fails with `Overflow` whatever the buffer holds, a fatal message included; one that collected nothing is a
`Timeout` for a command and `Nothing` for an acquisition or LISTEN. A buffer that does not begin with the expected opcode and
holds no message is `PartialSysMsg` if a token stands in it, else `LeadMismatch`, or for LISTEN the bytes themselves. One that
begins with it fails as the parser says, and with `TrailingBytes` if other bytes follow the frames: always under `strict`, and
under `frames_then_messages` unless a message is found in them. A buffer that does not begin with the expected opcode and
holds messages, however many and whatever else stands among them (R142, R144), ends the cycle with what they all come to: a
failure, a fatal one ending the session, an acknowledgment, which enters the acquisition loop in a StartMeasurement cycle, or
a notice. Where messages follow frames, then, under every shape, what is wrong with the frames
decides, else what the messages come to, a fatal one ending the session, and otherwise the data stands with the messages
beside it; the samples of the frames are emitted in each case. -/
def Obligations.CycleWithoutAUsableReply : Prop :=
  ∀ s : State,
    (s.overflow = true → s.completeCycle = s.failing s.cl .malformedFrame .overflow) ∧
    (s.overflow = false → s.rxbuf = [] → (s.cycleKind = .command ∨ s.cycleKind = .startCommand) →
      s.completeCycle = s.failing (scan s.cfg.msgTable []) .timeout .noReply) ∧
    (s.overflow = false → s.rxbuf = [] → (s.cycleKind = .acquisition ∨ s.cycleKind = .listen) →
      s.completeCycle =
        { s with phase := .ready, cl := scan s.cfg.msgTable [], resultOut := s.resultOut ++ [.nothing] }) ∧
    (s.overflow = false → (∀ e, s.expect = some e → s.rxbuf.head? ≠ some e) →
      (scan s.cfg.msgTable s.rxbuf).msgs = [] → (0x18 : Byte) ∈ s.rxbuf →
      s.completeCycle = s.failing (scan s.cfg.msgTable s.rxbuf) .malformedFrame .partialSysMsg) ∧
    (∀ e, s.overflow = false → s.expect = some e → s.rxbuf.head? ≠ some e → s.rxbuf ≠ [] → (0x18 : Byte) ∉ s.rxbuf →
      s.completeCycle = s.failing (scan s.cfg.msgTable s.rxbuf) .malformedFrame .leadMismatch) ∧
    (s.overflow = false → s.expect = none → s.rxbuf ≠ [] → (0x18 : Byte) ∉ s.rxbuf →
      s.completeCycle =
        { s with
          phase := .ready, cl := scan s.cfg.msgTable s.rxbuf,
          resultOut := s.resultOut ++ [.rawUnclassified s.rxbuf] }) ∧
    (s.overflow = false → (∀ e, s.expect = some e → s.rxbuf.head? ≠ some e) →
      let found := scan s.cfg.msgTable s.rxbuf
      found.msgs ≠ [] →
      (∀ kind info, evaluate found.msgs = .fail kind info found.msgs →
        s.completeCycle = { s with
          phase := .ready, cl := found, acqActive := s.acqActive && !kind.isFatal,
          abortPending := s.abortPending || kind.isFatal,
          resultOut := s.resultOut ++ [.fail kind info found.msgs],
          errorOut := s.errorOut ++ [⟨kind, info⟩], lastErr := ⟨kind.code, some info⟩ }) ∧
      (evaluate found.msgs = .ack found.msgs →
        s.completeCycle = { s with
          phase := .ready, cl := found, acqActive := s.acqActive || decide (s.cycleKind = .startCommand),
          resultOut := s.resultOut ++ [.ack found.msgs] }) ∧
      (evaluate found.msgs = .notice found.msgs →
        s.completeCycle =
          { s with phase := .ready, cl := found, resultOut := s.resultOut ++ [.notice found.msgs] })) ∧
    (∀ e err, s.overflow = false → s.expect = some e → s.rxbuf.head? = some e → parseFrames s.rxbuf e = .err err →
      s.completeCycle = s.failing s.cl err.kind err.info) ∧
    (∀ (e : Byte) (ps : List Bytes) (rest : Bytes), s.overflow = false → s.expect = some e → ps ≠ [] →
      (∀ p ∈ ps, p.length ≤ 255) → s.rxbuf = framesOf e ps ++ rest →
      rest ≠ [] → rest.head? ≠ some e →
      let tail := scan s.cfg.msgTable rest
      (s.cfg.mixedBurst = .strict → s.completeCycle = s.failing s.cl .malformedFrame .trailingBytes) ∧
      (s.cfg.mixedBurst = .framesThenMessages → tail.msgs = [] →
        s.completeCycle = s.failing tail .malformedFrame .trailingBytes) ∧
      (s.cfg.mixedBurst = .framesThenMessages → tail.msgs ≠ [] →
        (∀ err samples, ReplyBreaks s.cfg s.tsMode s.crMode s.shape ps err samples →
          s.completeCycle = { s with
            phase := .ready, cl := tail, sampleOut := s.sampleOut ++ samples,
            resultOut := s.resultOut ++ [.fail err.kind err.info tail.msgs],
            errorOut := s.errorOut ++ [err], lastErr := ⟨err.kind.code, some err.info⟩ }) ∧
        (∀ value samples, ReplyHolds s.cfg s.tsMode s.crMode s.shape ps value samples →
          (∀ kind info, evaluate tail.msgs = .fail kind info tail.msgs →
            s.completeCycle = { s with
              phase := .ready, cl := tail, sampleOut := s.sampleOut ++ samples,
              acqActive := s.acqActive && !kind.isFatal, abortPending := s.abortPending || kind.isFatal,
              resultOut := s.resultOut ++ [.fail kind info tail.msgs],
              errorOut := s.errorOut ++ [⟨kind, info⟩], lastErr := ⟨kind.code, some info⟩ }) ∧
          ((∀ kind info, evaluate tail.msgs ≠ .fail kind info tail.msgs) →
            s.completeCycle = { s with
              phase := .ready, cl := tail, sampleOut := s.sampleOut ++ samples,
              acqActive := s.acqActive || decide (s.cycleKind = .startCommand),
              resultOut := s.resultOut ++ [.data value tail.msgs] }))))

/-! ## The session -/

/-- R196, R200 to R203, R191 (D24, D25, D22, D37): the operations without a wire form, accepted, each format writing the
register value of its own name; and LISTEN and SET_REPLY_FORMAT refused while the acquisition loop runs (R191 test 3). -/
def Obligations.LocalOperationsHaveTheirEffect : Prop :=
  ∀ (s : State) (rest : List Input), s.phase = .ready →
    (s.acqActive = false → s.script = .localOp .listen :: rest →
      step s = .next { s with
        script := rest, cycleKind := .listen, expect := none, shape := .bytes, rxbuf := [],
        idleCnt := 0, overflow := false, phase := .collect }) ∧
    (∀ (ts : TsFormat) (cr : CrFormat) (tsMode : TsMode) (crMode : CrMode),
      ((ts = .off ∧ tsMode = .off) ∨ (ts = .ms4 ∧ tsMode = .ms4) ∨ (ts = .us5 ∧ tsMode = .us5)) →
      ((cr = .absent ∧ crMode = .absent) ∨ (cr = .present ∧ crMode = .present)) →
      s.acqActive = false → s.script = .localOp (.setReplyFormat ts cr) :: rest →
      step s = .next { s with
        script := rest, tsMode := tsMode, crMode := crMode, resultOut := s.resultOut ++ [.done] }) ∧
    (s.acqActive = true → s.script = .localOp .listen :: rest →
      step s = .next { s with script := rest, resultOut := s.resultOut ++ [.refused .acqActive] }) ∧
    (∀ ts cr, s.acqActive = true → s.script = .localOp (.setReplyFormat ts cr) :: rest →
      step s = .next { s with script := rest, resultOut := s.resultOut ++ [.refused .acqActive] }) ∧
    (∀ n, 1 ≤ n → n ≤ 255 → s.script = .localOp (.setIdleThreshold n) :: rest →
      step s = .next { s with script := rest, idleThreshold := n, resultOut := s.resultOut ++ [.done] }) ∧
    (∀ n, (n = 0 ∨ 255 < n) → s.script = .localOp (.setIdleThreshold n) :: rest →
      step s = .next { s with script := rest, resultOut := s.resultOut ++ [.refused .badValue] }) ∧
    (s.script = .localOp .ackAbort :: rest →
      step s = .next { s with
        script := rest, abortPending := false, lastErr := ⟨0, none⟩,
        resultOut := s.resultOut ++ [.done] }) ∧
    (s.script = .localOp .readStatus :: rest →
      step s = .next { s with
        script := rest, resultOut := s.resultOut ++
        [.status s.acqActive s.abortPending s.lastErr s.idleThreshold s.tsMode s.crMode] })

/-- R190, R199 (D21): when the host presents nothing, the block takes the acquisition step exactly in `Ready` with
`ACQ_ACTIVE` set and no abort pending; otherwise nothing changes. -/
def Obligations.QuietStepIsTheAcquisitionStep : Prop :=
  ∀ (s : State) (rest : List Input), s.script = .quiet :: rest →
    (s.phase = .ready → s.acqActive = true → s.abortPending = false →
      step s = .next { s with
        script := rest, cycleKind := .acquisition, expect := some 0xB8, shape := .samples,
        rxbuf := [], idleCnt := 0, overflow := false, phase := .collect }) ∧
    ((s.phase = .collect ∨ s.acqActive = false ∨ s.abortPending = true) → step s = .next { s with script := rest })

/-- R250, R251 (D25, D27): the external reset, in any state: every element of the block gets its value of R38; the parameters
and the transport's bytes stay. -/
def Obligations.ExternalResetRestoresEveryElement : Prop :=
  ∀ (s : State) (rest : List Input), s.script = .reset :: rest →
    step s = .next { s with
      script := rest, phase := .ready, cycleKind := .listen, expect := none, shape := .bytes, rxbuf := [], idleCnt := 0,
      overflow := false, cl := ⟨.seeking, none, false, [], 0, .seeking⟩, idleThreshold := 1, tsMode := .unset,
      crMode := .unset, acqActive := false, abortPending := false, lastErr := ⟨0, none⟩, resultOut := [], sampleOut := [],
      errorOut := [], txOut := [] }

/-- R225, R215 (D26): the numeric codes of the eleven error kinds, and `deliver`. A failure stands once on `RESULT_OUT` and once on `ERROR_OUT` and is written to `LAST_ERR` with the code
of its kind; any other outcome stands on `RESULT_OUT` only. Nothing else changes. -/
def Obligations.DeliveryOfAnOutcome : Prop :=
  (ErrorKind.malformedFrame.code = 1 ∧ ErrorKind.timeout.code = 2 ∧ ErrorKind.unrecognizedCommand.code = 3 ∧
    ErrorKind.notExecuted.code = 4 ∧ ErrorKind.overcurrent.code = 5 ∧ ErrorKind.overvoltage.code = 6 ∧
    ErrorKind.dataHoldup.code = 7 ∧ ErrorKind.incompleteMultiFrameReply.code = 8 ∧ ErrorKind.payloadTooLarge.code = 9 ∧
    ErrorKind.payloadOutOfRange.code = 10 ∧ ErrorKind.transportError.code = 11) ∧
  ∀ (s : State) (o : Report),
    (∀ err info msgs, o = .fail err info msgs →
      s.deliver o = { s with
        resultOut := s.resultOut ++ [o], errorOut := s.errorOut ++ [⟨err, info⟩],
        lastErr := ⟨err.code, some info⟩ }) ∧
    ((∀ err info msgs, o ≠ .fail err info msgs) → s.deliver o = { s with resultOut := s.resultOut ++ [o] })

/-- R204 and notes/assumptions/5.md: the invariants hold at reset. -/
def Obligations.InvariantsHoldAtReset : Prop :=
  State.reset.Inv ∧ State.reset.ErrorsSurfaced ∧ State.reset.LastErrCurrent

/-- R204 (a) to (f): every step, whatever its input, keeps the invariants. The seventh clause of `Inv` is the fact R204 (a)
names as its reason. -/
def Obligations.EveryStepKeepsTheInvariants : Prop :=
  ∀ s t : State, s.Inv → step s = .next t → t.Inv

/-- R225, R28, R202: in every state in which the error stream is the list of the failures delivered and `LAST_ERR` is the
newest of them or was cleared, every step leaves it so. -/
def Obligations.EveryStepKeepsErrorsSurfaced : Prop :=
  ∀ s t : State, s.ErrorsSurfaced → s.LastErrCurrent → step s = .next t → t.ErrorsSurfaced ∧ t.LastErrCurrent

/-- R37, R23 to R27, R29 (D21, D22, D24, D25): over every step, whatever its input, what alone may write a register. No step
changes a parameter, the command table and the message table among them. `IDLE_THRESHOLD`, `TS_MODE` and `CR_MODE` change only
by their own operation, accepted in `Ready`, or by a reset, and no operation writes `Unset`. `ACQ_ACTIVE` is set only where a
StartMeasurement cycle ends in `Ack` or `Data`. `ABORT_PENDING` is set only where a cycle ends with the fault of a fatal
message, or with a failed read in an acquisition, and then `ACQ_ACTIVE` is clear. What clears the two flags is said by
NothingIsSentUntilTheAbortIsAcknowledged and OnlyTheStopIsSentDuringAcquisition. -/
def Obligations.RegistersChangeOnlyByTheirOwnEvents : Prop :=
  ∀ s t : State, step s = .next t →
    t.cfg = s.cfg ∧
    (t.idleThreshold ≠ s.idleThreshold → s.nextInput = .reset ∨
      ∃ n, s.nextInput = .localOp (.setIdleThreshold n) ∧ s.phase = .ready ∧ 1 ≤ n ∧ n ≤ 255 ∧ t.idleThreshold = n) ∧
    ((t.tsMode ≠ s.tsMode ∨ t.crMode ≠ s.crMode) → s.nextInput = .reset ∨
      ∃ ts cr, s.nextInput = .localOp (.setReplyFormat ts cr) ∧ s.phase = .ready ∧ s.acqActive = false ∧
        t.tsMode ≠ .unset ∧ t.crMode ≠ .unset) ∧
    (s.acqActive = false → t.acqActive = true →
      s.phase = .collect ∧ t.phase = .ready ∧ s.cycleKind = .startCommand ∧
      ∃ o, t.resultOut = s.resultOut ++ [o] ∧ ((∃ msgs, o = .ack msgs) ∨ ∃ value msgs, o = .data value msgs)) ∧
    (s.abortPending = false → t.abortPending = true →
      s.phase = .collect ∧ t.phase = .ready ∧ t.acqActive = false ∧
      ∃ kind info msgs, t.resultOut = s.resultOut ++ [.fail kind info msgs] ∧
        ((∃ m ∈ msgs, fatalError m.name = some ⟨kind, info⟩) ∨
          (kind = .transportError ∧ info = .read ∧ (s.cycleKind = .acquisition ∨ s.acqActive = true))))

/-- R33 to R36, R120, R195, R225: the streams are append-only, the external reset alone empties them, and a step that ends a
cycle delivers exactly one outcome. -/
def Obligations.StreamsOnlyGrow : Prop :=
  ∀ s t : State, step s = .next t → s.nextInput ≠ .reset →
    s.StreamsExtend t ∧
    (s.phase = .collect → t.phase = .ready → ∃ o, t.resultOut = s.resultOut ++ [o])

/-- R47 (a), (c), (d), R195: a step writes at most one frame, only from `Ready`, only when its input presents an operation, and
then the operation's own; its cycle then collects. So nothing is pipelined, and the block resends nothing by itself. That an
operation may be presented in wire form, and is then written as presented, is the model's choice
(notes/assumptions/14.md). -/
def Obligations.FrameIsWrittenOnlyFromReady : Prop :=
  ∀ s t : State, step s = .next t → s.nextInput ≠ .reset → t.txOut ≠ s.txOut →
    s.phase = .ready ∧ t.phase = .collect ∧ t.rxbuf = [] ∧
    ((∃ i ans, s.nextInput = .op i ans ∧ i.fromDevice = false ∧ t.txOut = s.txOut ++ [encode s.cfg i]) ∨
      (∃ bs shape ans, s.nextInput = .host bs shape ans ∧ t.txOut = s.txOut ++ [bs]))

/-- R27, R226 (D22): while an abort is pending nothing is sent, and only the host's acknowledgment or a reset clears it. -/
def Obligations.NothingIsSentUntilTheAbortIsAcknowledged : Prop :=
  ∀ s t : State, s.abortPending = true → step s = .next t → s.nextInput ≠ .reset →
    t.txOut = s.txOut ∧ (t.abortPending = true ∨ s.nextInput = .localOp .ackAbort)

/-- R191 test 3, R199 (D21): while the acquisition loop runs, the only frame a step can write is the stop, and the loop ends
only by that write, a fatal message, or a failed read (or a reset). -/
def Obligations.OnlyTheStopIsSentDuringAcquisition : Prop :=
  ∀ s t : State, s.acqActive = true → step s = .next t → s.nextInput ≠ .reset →
    (t.txOut = s.txOut ∨ t.txOut = s.txOut ++ [encode s.cfg .stopMeas]) ∧
    (t.acqActive = false → t.txOut = s.txOut ++ [encode s.cfg .stopMeas] ∨ t.abortPending = true)
end

