-- ==== Sys2Proof/Laws/Bytes.lean ====
section
/-! SUPPORT. Laws of the byte-order helpers and of ByteCodec: what `beNat` and `beBytes` do to each other, to lengths and to
single fields. -/

namespace Sys2Proof

theorem beNat_foldl (bs : Bytes) (a : Nat) :
    bs.foldl (fun acc (b : Byte) => acc * 256 + b.toNat) a = a * 256 ^ bs.length + beNat bs := by
  induction bs generalizing a with
  | nil => simp [beNat]
  | cons b t ih =>
    have h0 := ih b.toNat
    simp only [beNat, List.foldl_cons, List.length_cons, Nat.zero_mul, Nat.zero_add] at h0 ⊢
    rw [ih, h0, Nat.pow_succ, beNat]
    ring

@[simp] theorem beNat_nil : beNat [] = 0 := rfl

theorem beNat_cons (b : Byte) (t : Bytes) : beNat (b :: t) = b.toNat * 256 ^ t.length + beNat t := by
  simpa [beNat] using beNat_foldl t b.toNat

@[simp] theorem beNat_single (b : Byte) : beNat [b] = b.toNat := by simp [beNat_cons]

theorem beNat_lt (bs : Bytes) : beNat bs < 256 ^ bs.length := by
  induction bs with
  | nil => simp
  | cons b t ih =>
    rw [beNat_cons, List.length_cons, Nat.pow_succ]
    have hb := b.isLt
    nlinarith [Nat.pos_of_ne_zero (pow_ne_zero t.length (by norm_num : (256 : Nat) ≠ 0))]

@[simp] theorem beBytes_length (w x : Nat) : (beBytes w x).length = w := by
  induction w with
  | zero => rfl
  | succ n ih => simp [beBytes, ih]

@[simp] theorem beBytes_zero (x : Nat) : beBytes 0 x = [] := rfl

theorem beNat_beBytes_mod (w x : Nat) : beNat (beBytes w x) = x % 256 ^ w := by
  induction w with
  | zero => simp [Nat.mod_one]
  | succ n ih =>
    have h8 : (2 : Nat) ^ 8 = 256 := rfl
    rw [beBytes, beNat_cons, ih, beBytes_length, BitVec.toNat_ofNat, h8, Nat.pow_succ, Nat.mod_mul]
    ring

theorem beNat_beBytes {w x : Nat} (h : x < 256 ^ w) : beNat (beBytes w x) = x := by
  rw [beNat_beBytes_mod, Nat.mod_eq_of_lt h]

theorem beBytes_beNat (bs : Bytes) : beBytes bs.length (beNat bs) = bs := by
  induction bs with
  | nil => rfl
  | cons b t ih =>
    have ht := beNat_lt t
    have hp : 0 < 256 ^ t.length := Nat.pow_pos (by norm_num)
    have hd : (b.toNat * 256 ^ t.length + beNat t) / 256 ^ t.length = b.toNat := by
      rw [Nat.add_comm, Nat.add_mul_div_right _ _ hp, Nat.div_eq_of_lt ht, Nat.zero_add]
    have hl : ∀ (n a x : Nat), beBytes n (a * 256 ^ n + x) = beBytes n x := by
      intro n
      induction n with
      | zero => intros; rfl
      | succ m ihm =>
        intro a x
        have hpm : 0 < 256 ^ m := Nat.pow_pos (by norm_num)
        have e1 : a * 256 ^ (m + 1) + x = (a * 256) * 256 ^ m + x := by ring
        have e2 : (a * 256 * 256 ^ m + x) / 256 ^ m = a * 256 + x / 256 ^ m := by
          rw [Nat.add_comm, Nat.add_mul_div_right _ _ hpm, Nat.add_comm]
        simp only [beBytes]
        rw [e1, ihm, e2]
        congr 1
        apply BitVec.eq_of_toNat_eq
        simp [BitVec.toNat_ofNat]
    rw [beNat_cons, List.length_cons, beBytes, hd, hl, ih]
    simp

@[simp] theorem takeBE_beBytes (w x : Nat) (rest : Bytes) :
    takeBE w (beBytes w x ++ rest) = some (x % 256 ^ w, rest) := by
  have h : w ≤ (beBytes w x ++ rest).length := by simp
  unfold takeBE
  rw [if_pos h, List.take_left' (beBytes_length w x), List.drop_left' (beBytes_length w x), beNat_beBytes_mod]

@[simp] theorem takeBE_beBytes_end (w x : Nat) : takeBE w (beBytes w x) = some (x % 256 ^ w, []) := by
  simpa using takeBE_beBytes w x []

theorem takeBE_eq_some {w : Nat} {bs r : Bytes} {x : Nat} (h : takeBE w bs = some (x, r)) :
    bs = beBytes w x ++ r ∧ x < 256 ^ w := by
  unfold takeBE at h
  split at h
  · rename_i hw
    simp only [Option.some.injEq, Prod.mk.injEq] at h
    obtain ⟨rfl, rfl⟩ := h
    have hl : (bs.take w).length = w := by simp [hw]
    have := beBytes_beNat (bs.take w)
    rw [hl] at this
    refine ⟨by rw [this, List.take_append_drop], ?_⟩
    simpa [hl] using beNat_lt (bs.take w)
  · cases h

@[simp] theorem takeTag_cons (tag : Byte) (rest : Bytes) : takeTag tag (tag :: rest) = some rest := by
  simp [takeTag]

theorem takeTag_eq_some {tag : Byte} {bs r : Bytes} (h : takeTag tag bs = some r) : bs = tag :: r := by
  cases bs with
  | nil => cases h
  | cons b t =>
    simp only [takeTag] at h
    split at h <;> simp_all

@[simp] theorem ofNat_toNat_mod32 (x : BitVec 32) : BitVec.ofNat 32 (x.toNat % 256 ^ 4) = x := by
  apply BitVec.eq_of_toNat_eq
  simp only [BitVec.toNat_ofNat]
  have := x.isLt
  omega

@[simp] theorem ofNat_toNat_mod16 (x : BitVec 16) : BitVec.ofNat 16 (x.toNat % 256 ^ 2) = x := by
  apply BitVec.eq_of_toNat_eq
  simp only [BitVec.toNat_ofNat]
  have := x.isLt
  omega

@[simp] theorem ofNat_toNat_mod40 (x : BitVec 40) : BitVec.ofNat 40 (x.toNat % 256 ^ 5) = x := by
  apply BitVec.eq_of_toNat_eq
  simp only [BitVec.toNat_ofNat]
  have := x.isLt
  omega

@[simp] theorem ofNat_toNat_mod8 (x : Byte) : BitVec.ofNat 8 (x.toNat % 256 ^ 1) = x := by
  apply BitVec.eq_of_toNat_eq
  simp only [BitVec.toNat_ofNat]
  have := x.isLt
  omega

/-! The same with the powers written out, as `simp` leaves them. -/

@[simp] theorem ofNat_toNat_lit32 (x : BitVec 32) : BitVec.ofNat 32 (x.toNat % 4294967296) = x := ofNat_toNat_mod32 x
@[simp] theorem ofNat_toNat_lit16 (x : BitVec 16) : BitVec.ofNat 16 (x.toNat % 65536) = x := ofNat_toNat_mod16 x
@[simp] theorem ofNat_toNat_lit40 (x : BitVec 40) : BitVec.ofNat 40 (x.toNat % 1099511627776) = x := ofNat_toNat_mod40 x

@[simp] theorem takeBE_zero (bs : Bytes) : takeBE 0 bs = some (0, bs) := by simp [takeBE]
@[simp] theorem takeBE_one (b : Byte) (rest : Bytes) : takeBE 1 (b :: rest) = some (b.toNat, rest) := by simp [takeBE]

/-- A single byte is its own one-byte field. -/
theorem beBytes_one (b : Byte) : beBytes 1 b.toNat = [b] := by
  simp [beBytes]

namespace Machine

/-- `ENC_F32` is the four-byte big-endian form of the pattern's number (R92, R65). -/
theorem encF32_eq (x : F32) : encF32 x = beBytes 4 x.toNat := by
  simp only [encF32, beBytes, List.cons.injEq, and_true]
  refine ⟨?_, ?_, ?_, ?_⟩ <;>
    (apply BitVec.eq_of_toNat_eq; simp [BitVec.extractLsb'_toNat, Nat.shiftRight_eq_div_pow])

@[simp] theorem encF32_length (x : F32) : (encF32 x).length = 4 := rfl

theorem encUint_ok {x w : Nat} (hw : w = 1 ∨ w = 2 ∨ w = 4) (hx : x < 256 ^ w) : encUint x w = .ok (beBytes w x) := by
  simp [encUint, hw, hx]

theorem encUint_outOfRange {x w : Nat} (hw : w = 1 ∨ w = 2 ∨ w = 4) (hx : 256 ^ w ≤ x) :
    encUint x w = .error (outOfRange x w) := by
  simp [encUint, hw, Nat.not_lt.mpr hx]

theorem encUint_byte (b : Byte) : encUint b.toNat 1 = .ok [b] := by
  have h := encUint_ok (w := 1) (x := b.toNat) (Or.inl rfl) (by simpa using b.isLt)
  rwa [beBytes_one] at h

theorem encUint_word (x : BitVec 32) : encUint x.toNat 4 = .ok (beBytes 4 x.toNat) :=
  encUint_ok (by simp) (by simpa using x.isLt)

theorem decUint_beBytes {x w : Nat} (hw : w = 1 ∨ w = 2 ∨ w = 4) (hx : x < 256 ^ w) :
    decUint (beBytes w x) = .ok x := by
  simp [decUint, hw, beNat_beBytes hx]

theorem decF32_encF32_append (x : F32) (rest : Bytes) : decF32 (encF32 x ++ rest) = .ok x := by
  have h4 : ¬ (encF32 x ++ rest).length < 4 := by simp
  rw [decF32, if_neg h4, List.take_left' (encF32_length x), encF32_eq, beNat_beBytes_mod,
    ofNat_toNat_mod32]

/-! The other two laws of R98: encoding what was decoded gives the bytes back. -/

theorem encF32_decF32 {bs : Bytes} {x : F32} (hl : bs.length = 4) (h : decF32 bs = .ok x) : encF32 x = bs := by
  have h4 : ¬ bs.length < 4 := by omega
  rw [decF32, if_neg h4, Except.ok.injEq, List.take_of_length_le (by omega)] at h
  subst h
  have hb := beNat_lt bs
  have e := beBytes_beNat bs
  rw [hl] at hb e
  rw [encF32_eq, BitVec.toNat_ofNat, Nat.mod_eq_of_lt (by simpa using hb), e]

theorem encUint_decUint {bs : Bytes} {x : Nat} (h : decUint bs = .ok x) : encUint x bs.length = .ok bs := by
  unfold decUint at h
  split at h
  · rename_i hw
    simp only [Except.ok.injEq] at h
    subst h
    rw [encUint_ok hw (beNat_lt bs), beBytes_beNat]
  · cases h

end Machine

end Sys2Proof
end

