-- ==== Sys2Proof/Laws/Frames.lean ====
section
/-! SUPPORT. What FrameBuilder makes of each command with legal operands: the encoding of the row (spec/41_framebuilder.md R100,
spec/44_commandset.md R151 to R159). -/

namespace Sys2Proof.Machine

/-- A payload that fits is framed (R100). -/
theorem build_ok {opcode : Byte} {payload : Bytes} (h : payload.length ≤ 252) :
    build opcode payload = .ok (envelope opcode payload) := by
  have : ¬ maxPayload < payload.length := by simp only [maxPayload]; omega
  simp [build, this, envelope]

theorem checkSweep_legal {sp : SweepSpec} (h1 : 1 ≤ sp.steps)
    (h : sp.scale = .linear ∨ fle32 sp.startFreq sp.stopFreq = true) : checkSweep sp = .ok () := by
  have : ¬ (sp.steps < 1) := by omega
  rcases h with h | h <;> simp [checkSweep, this, h]

theorem sweepOperands_ok (c : Config) {sp : SweepSpec} (hs : sp.steps < 2 ^ 32) (hd : sp.pointDelayUs < 2 ^ 32) :
    sweepOperands c sp = .ok (encodeSweep c sp) := by
  have e1 : encUint sp.steps 4 = .ok (beBytes 4 sp.steps) := encUint_ok (by simp) (by simpa using hs)
  have e2 : encUint sp.pointDelayUs 4 = .ok (beBytes 4 sp.pointDelayUs) := encUint_ok (by simp) (by simpa using hd)
  simp only [sweepOperands, e1, e2, encUint_byte, encUint_word, bind, Except.bind, pure, Except.pure, encodeSweep,
    encF32_eq, beBytes_one]
  simp

@[simp] theorem encodeSweep_length (c : Config) (sp : SweepSpec) : (encodeSweep c sp).length = 36 := by
  simp [encodeSweep]

/-- The frame of a command whose payload fits is its encoding, whatever its row of the table (R70, R100, R102). -/
theorem buildCommand_ok {c : Config} {cmd : Cmd} {operands : Bytes} (hw : operands.length = c.operandWidth cmd)
    (h : c.payloadSize cmd ≤ 252) : buildCommand c cmd operands = .ok (encodeCommand c cmd operands) := by
  have hl : ((c.cmdRow cmd).head ++ operands).length ≤ 252 := by
    simpa [Config.payloadSize, ← hw] using h
  simp only [buildCommand, encodeCommand]
  split
  · rfl
  · exact build_ok hl

theorem frameInitSetup_ok {c : Config} (h : c.payloadSize .initSetup ≤ 252) :
    frameInitSetup c = .ok (encode c .initSetup) :=
  buildCommand_ok rfl h

theorem frameAddFreqList_ok {c : Config} (h : c.payloadSize .addFreqList ≤ 252) {sp : SweepSpec} (h1 : 1 ≤ sp.steps)
    (h2 : sp.steps < 2 ^ 32) (h3 : sp.pointDelayUs < 2 ^ 32)
    (h4 : sp.scale = .linear ∨ fle32 sp.startFreq sp.stopFreq = true) :
    frameAddFreqList c sp = .ok (encode c (.addFreqList sp)) := by
  simp only [frameAddFreqList, checkSweep_legal h1 h4, sweepOperands_ok c h2 h3, bind, Except.bind]
  exact buildCommand_ok (by simp [Config.operandWidth]) h

theorem frameStartMeas_ok {c : Config} (h : c.payloadSize .startMeas ≤ 252) {rep : Nat} (hr : rep < 65536) :
    frameStartMeas c rep = .ok (encode c (.startMeas rep)) := by
  simp only [frameStartMeas, encU16le, if_pos hr, bind, Except.bind]
  exact buildCommand_ok rfl h

theorem frameStopMeas_ok {c : Config} (h : c.payloadSize .stopMeas ≤ 252) :
    frameStopMeas c = .ok (encode c .stopMeas) :=
  buildCommand_ok rfl h

theorem frameGetNumFreq_ok {c : Config} (h : c.payloadSize .getNumFreq ≤ 252) :
    frameGetNumFreq c = .ok (encode c .getNumFreq) :=
  buildCommand_ok rfl h

theorem frameGetFreqPoint_ok {c : Config} (h : c.payloadSize .getFreqPoint ≤ 252) {row : Nat}
    (hw : c.rowWidth = 1 ∨ c.rowWidth = 2 ∨ c.rowWidth = 4) (hr : row < 256 ^ c.rowWidth) :
    frameGetFreqPoint c row = .ok (encode c (.getFreqPoint row)) := by
  simp only [frameGetFreqPoint, encUint_ok hw hr, bind, Except.bind]
  exact buildCommand_ok (by simp [Config.operandWidth]) h

theorem frameGetFreqList_ok {c : Config} (h : c.payloadSize .getFreqList ≤ 252) :
    frameGetFreqList c = .ok (encode c .getFreqList) :=
  buildCommand_ok rfl h

theorem frameGetDeviceId_ok {c : Config} (h : c.payloadSize .getDeviceId ≤ 252) :
    frameGetDeviceId c = .ok (encode c .getDeviceId) :=
  buildCommand_ok rfl h

/-! ## The parser -/

/-- One whole frame in front of any bytes is taken off (R105): the rest is parsed after it. -/
theorem parseFrom_frame (e : Byte) (fuel : Nat) (frames : List Bytes) {p : Bytes} (hp : p.length ≤ 255)
    (rest : Bytes) : parseFrom e (fuel + 1) frames ([e, BitVec.ofNat 8 p.length] ++ p ++ [e] ++ rest) =
      parseFrom e fuel (frames ++ [p]) rest := by
  have hm : p.length % 256 = p.length := by omega
  have h1 : ¬ ((p ++ (e :: rest)).length ≤ p.length) := by simp
  simp [parseFrom, hm]

/-- Bytes that do not begin with the opcode end the walk (R105). -/
theorem parseFrom_stop (e : Byte) (fuel : Nat) (frames : List Bytes) {rest : Bytes} (h : rest.head? ≠ some e) :
    parseFrom e fuel frames rest = .ok frames rest := by
  cases rest with
  | nil => cases fuel <;> rfl
  | cons b t =>
    have : b ≠ e := by simpa using h
    unfold parseFrom
    simp [this]

end Sys2Proof.Machine
end

