-- ==== Sys2Proof/Laws/State.lean ====
section
/-! SUPPORT. One lemma per field per update of the state, so that no proof unfolds a record update. -/

namespace Sys2Proof.Machine

variable (s : State)

@[simp] theorem State.emit_cfg (o : Report) : (s.emit o).cfg = s.cfg := rfl
@[simp] theorem State.emit_phase (o : Report) : (s.emit o).phase = s.phase := rfl
@[simp] theorem State.emit_cycleKind (o : Report) : (s.emit o).cycleKind = s.cycleKind := rfl
@[simp] theorem State.emit_expect (o : Report) : (s.emit o).expect = s.expect := rfl
@[simp] theorem State.emit_shape (o : Report) : (s.emit o).shape = s.shape := rfl
@[simp] theorem State.emit_rxbuf (o : Report) : (s.emit o).rxbuf = s.rxbuf := rfl
@[simp] theorem State.emit_idleCnt (o : Report) : (s.emit o).idleCnt = s.idleCnt := rfl
@[simp] theorem State.emit_overflow (o : Report) : (s.emit o).overflow = s.overflow := rfl
@[simp] theorem State.emit_cl (o : Report) : (s.emit o).cl = s.cl := rfl
@[simp] theorem State.emit_idleThreshold (o : Report) : (s.emit o).idleThreshold = s.idleThreshold := rfl
@[simp] theorem State.emit_tsMode (o : Report) : (s.emit o).tsMode = s.tsMode := rfl
@[simp] theorem State.emit_crMode (o : Report) : (s.emit o).crMode = s.crMode := rfl
@[simp] theorem State.emit_acqActive (o : Report) : (s.emit o).acqActive = s.acqActive := rfl
@[simp] theorem State.emit_abortPending (o : Report) : (s.emit o).abortPending = s.abortPending := rfl
@[simp] theorem State.emit_lastErr (o : Report) : (s.emit o).lastErr = s.lastErr := rfl
@[simp] theorem State.emit_resultOut (o : Report) : (s.emit o).resultOut = s.resultOut ++ [o] := rfl
@[simp] theorem State.emit_sampleOut (o : Report) : (s.emit o).sampleOut = s.sampleOut := rfl
@[simp] theorem State.emit_errorOut (o : Report) : (s.emit o).errorOut = s.errorOut := rfl
@[simp] theorem State.emit_txOut (o : Report) : (s.emit o).txOut = s.txOut := rfl
@[simp] theorem State.emit_waiting (o : Report) : (s.emit o).waiting = s.waiting := rfl
@[simp] theorem State.emit_txAnswer (o : Report) : (s.emit o).txAnswer = s.txAnswer := rfl
@[simp] theorem State.emit_script (o : Report) : (s.emit o).script = s.script := rfl
@[simp] theorem State.emit_envIdx (o : Report) : (s.emit o).envIdx = s.envIdx := rfl

@[simp] theorem State.recordError_cfg (e : Raised) : (s.recordError e).cfg = s.cfg := rfl
@[simp] theorem State.recordError_phase (e : Raised) : (s.recordError e).phase = s.phase := rfl
@[simp] theorem State.recordError_cycleKind (e : Raised) : (s.recordError e).cycleKind = s.cycleKind := rfl
@[simp] theorem State.recordError_expect (e : Raised) : (s.recordError e).expect = s.expect := rfl
@[simp] theorem State.recordError_shape (e : Raised) : (s.recordError e).shape = s.shape := rfl
@[simp] theorem State.recordError_rxbuf (e : Raised) : (s.recordError e).rxbuf = s.rxbuf := rfl
@[simp] theorem State.recordError_idleCnt (e : Raised) : (s.recordError e).idleCnt = s.idleCnt := rfl
@[simp] theorem State.recordError_overflow (e : Raised) : (s.recordError e).overflow = s.overflow := rfl
@[simp] theorem State.recordError_cl (e : Raised) : (s.recordError e).cl = s.cl := rfl
@[simp] theorem State.recordError_idleThreshold (e : Raised) : (s.recordError e).idleThreshold = s.idleThreshold := rfl
@[simp] theorem State.recordError_tsMode (e : Raised) : (s.recordError e).tsMode = s.tsMode := rfl
@[simp] theorem State.recordError_crMode (e : Raised) : (s.recordError e).crMode = s.crMode := rfl
@[simp] theorem State.recordError_acqActive (e : Raised) : (s.recordError e).acqActive = s.acqActive := rfl
@[simp] theorem State.recordError_abortPending (e : Raised) : (s.recordError e).abortPending = s.abortPending := rfl
@[simp] theorem State.recordError_lastErr (e : Raised) : (s.recordError e).lastErr = { code := e.kind.code, info := some e.info } := rfl
@[simp] theorem State.recordError_resultOut (e : Raised) : (s.recordError e).resultOut = s.resultOut := rfl
@[simp] theorem State.recordError_sampleOut (e : Raised) : (s.recordError e).sampleOut = s.sampleOut := rfl
@[simp] theorem State.recordError_errorOut (e : Raised) : (s.recordError e).errorOut = s.errorOut ++ [e] := rfl
@[simp] theorem State.recordError_txOut (e : Raised) : (s.recordError e).txOut = s.txOut := rfl
@[simp] theorem State.recordError_waiting (e : Raised) : (s.recordError e).waiting = s.waiting := rfl
@[simp] theorem State.recordError_txAnswer (e : Raised) : (s.recordError e).txAnswer = s.txAnswer := rfl
@[simp] theorem State.recordError_script (e : Raised) : (s.recordError e).script = s.script := rfl
@[simp] theorem State.recordError_envIdx (e : Raised) : (s.recordError e).envIdx = s.envIdx := rfl

@[simp] theorem State.ackAbort_cfg : (s.ackAbort).cfg = s.cfg := rfl
@[simp] theorem State.ackAbort_phase : (s.ackAbort).phase = s.phase := rfl
@[simp] theorem State.ackAbort_cycleKind : (s.ackAbort).cycleKind = s.cycleKind := rfl
@[simp] theorem State.ackAbort_expect : (s.ackAbort).expect = s.expect := rfl
@[simp] theorem State.ackAbort_shape : (s.ackAbort).shape = s.shape := rfl
@[simp] theorem State.ackAbort_rxbuf : (s.ackAbort).rxbuf = s.rxbuf := rfl
@[simp] theorem State.ackAbort_idleCnt : (s.ackAbort).idleCnt = s.idleCnt := rfl
@[simp] theorem State.ackAbort_overflow : (s.ackAbort).overflow = s.overflow := rfl
@[simp] theorem State.ackAbort_cl : (s.ackAbort).cl = s.cl := rfl
@[simp] theorem State.ackAbort_idleThreshold : (s.ackAbort).idleThreshold = s.idleThreshold := rfl
@[simp] theorem State.ackAbort_tsMode : (s.ackAbort).tsMode = s.tsMode := rfl
@[simp] theorem State.ackAbort_crMode : (s.ackAbort).crMode = s.crMode := rfl
@[simp] theorem State.ackAbort_acqActive : (s.ackAbort).acqActive = s.acqActive := rfl
@[simp] theorem State.ackAbort_abortPending : (s.ackAbort).abortPending = false := rfl
@[simp] theorem State.ackAbort_lastErr : (s.ackAbort).lastErr = { code := 0, info := none } := rfl
@[simp] theorem State.ackAbort_resultOut : (s.ackAbort).resultOut = s.resultOut := rfl
@[simp] theorem State.ackAbort_sampleOut : (s.ackAbort).sampleOut = s.sampleOut := rfl
@[simp] theorem State.ackAbort_errorOut : (s.ackAbort).errorOut = s.errorOut := rfl
@[simp] theorem State.ackAbort_txOut : (s.ackAbort).txOut = s.txOut := rfl
@[simp] theorem State.ackAbort_waiting : (s.ackAbort).waiting = s.waiting := rfl
@[simp] theorem State.ackAbort_txAnswer : (s.ackAbort).txAnswer = s.txAnswer := rfl
@[simp] theorem State.ackAbort_script : (s.ackAbort).script = s.script := rfl
@[simp] theorem State.ackAbort_envIdx : (s.ackAbort).envIdx = s.envIdx := rfl

@[simp] theorem State.abortSession_cfg : (s.abortSession).cfg = s.cfg := rfl
@[simp] theorem State.abortSession_phase : (s.abortSession).phase = s.phase := rfl
@[simp] theorem State.abortSession_cycleKind : (s.abortSession).cycleKind = s.cycleKind := rfl
@[simp] theorem State.abortSession_expect : (s.abortSession).expect = s.expect := rfl
@[simp] theorem State.abortSession_shape : (s.abortSession).shape = s.shape := rfl
@[simp] theorem State.abortSession_rxbuf : (s.abortSession).rxbuf = s.rxbuf := rfl
@[simp] theorem State.abortSession_idleCnt : (s.abortSession).idleCnt = s.idleCnt := rfl
@[simp] theorem State.abortSession_overflow : (s.abortSession).overflow = s.overflow := rfl
@[simp] theorem State.abortSession_cl : (s.abortSession).cl = s.cl := rfl
@[simp] theorem State.abortSession_idleThreshold : (s.abortSession).idleThreshold = s.idleThreshold := rfl
@[simp] theorem State.abortSession_tsMode : (s.abortSession).tsMode = s.tsMode := rfl
@[simp] theorem State.abortSession_crMode : (s.abortSession).crMode = s.crMode := rfl
@[simp] theorem State.abortSession_acqActive : (s.abortSession).acqActive = false := rfl
@[simp] theorem State.abortSession_abortPending : (s.abortSession).abortPending = true := rfl
@[simp] theorem State.abortSession_lastErr : (s.abortSession).lastErr = s.lastErr := rfl
@[simp] theorem State.abortSession_resultOut : (s.abortSession).resultOut = s.resultOut := rfl
@[simp] theorem State.abortSession_sampleOut : (s.abortSession).sampleOut = s.sampleOut := rfl
@[simp] theorem State.abortSession_errorOut : (s.abortSession).errorOut = s.errorOut := rfl
@[simp] theorem State.abortSession_txOut : (s.abortSession).txOut = s.txOut := rfl
@[simp] theorem State.abortSession_waiting : (s.abortSession).waiting = s.waiting := rfl
@[simp] theorem State.abortSession_txAnswer : (s.abortSession).txAnswer = s.txAnswer := rfl
@[simp] theorem State.abortSession_script : (s.abortSession).script = s.script := rfl
@[simp] theorem State.abortSession_envIdx : (s.abortSession).envIdx = s.envIdx := rfl

@[simp] theorem State.setAcqActive_cfg (v : Bool) : (s.setAcqActive v).cfg = s.cfg := rfl
@[simp] theorem State.setAcqActive_phase (v : Bool) : (s.setAcqActive v).phase = s.phase := rfl
@[simp] theorem State.setAcqActive_cycleKind (v : Bool) : (s.setAcqActive v).cycleKind = s.cycleKind := rfl
@[simp] theorem State.setAcqActive_expect (v : Bool) : (s.setAcqActive v).expect = s.expect := rfl
@[simp] theorem State.setAcqActive_shape (v : Bool) : (s.setAcqActive v).shape = s.shape := rfl
@[simp] theorem State.setAcqActive_rxbuf (v : Bool) : (s.setAcqActive v).rxbuf = s.rxbuf := rfl
@[simp] theorem State.setAcqActive_idleCnt (v : Bool) : (s.setAcqActive v).idleCnt = s.idleCnt := rfl
@[simp] theorem State.setAcqActive_overflow (v : Bool) : (s.setAcqActive v).overflow = s.overflow := rfl
@[simp] theorem State.setAcqActive_cl (v : Bool) : (s.setAcqActive v).cl = s.cl := rfl
@[simp] theorem State.setAcqActive_idleThreshold (v : Bool) : (s.setAcqActive v).idleThreshold = s.idleThreshold := rfl
@[simp] theorem State.setAcqActive_tsMode (v : Bool) : (s.setAcqActive v).tsMode = s.tsMode := rfl
@[simp] theorem State.setAcqActive_crMode (v : Bool) : (s.setAcqActive v).crMode = s.crMode := rfl
@[simp] theorem State.setAcqActive_acqActive (v : Bool) : (s.setAcqActive v).acqActive = v := rfl
@[simp] theorem State.setAcqActive_abortPending (v : Bool) : (s.setAcqActive v).abortPending = s.abortPending := rfl
@[simp] theorem State.setAcqActive_lastErr (v : Bool) : (s.setAcqActive v).lastErr = s.lastErr := rfl
@[simp] theorem State.setAcqActive_resultOut (v : Bool) : (s.setAcqActive v).resultOut = s.resultOut := rfl
@[simp] theorem State.setAcqActive_sampleOut (v : Bool) : (s.setAcqActive v).sampleOut = s.sampleOut := rfl
@[simp] theorem State.setAcqActive_errorOut (v : Bool) : (s.setAcqActive v).errorOut = s.errorOut := rfl
@[simp] theorem State.setAcqActive_txOut (v : Bool) : (s.setAcqActive v).txOut = s.txOut := rfl
@[simp] theorem State.setAcqActive_waiting (v : Bool) : (s.setAcqActive v).waiting = s.waiting := rfl
@[simp] theorem State.setAcqActive_txAnswer (v : Bool) : (s.setAcqActive v).txAnswer = s.txAnswer := rfl
@[simp] theorem State.setAcqActive_script (v : Bool) : (s.setAcqActive v).script = s.script := rfl
@[simp] theorem State.setAcqActive_envIdx (v : Bool) : (s.setAcqActive v).envIdx = s.envIdx := rfl

@[simp] theorem State.startCycle_cfg (k : CycleKind) (e : Option Byte) (sh : ReplyShape) : (s.startCycle k e sh).cfg = s.cfg := rfl
@[simp] theorem State.startCycle_phase (k : CycleKind) (e : Option Byte) (sh : ReplyShape) : (s.startCycle k e sh).phase = .collect := rfl
@[simp] theorem State.startCycle_cycleKind (k : CycleKind) (e : Option Byte) (sh : ReplyShape) : (s.startCycle k e sh).cycleKind = k := rfl
@[simp] theorem State.startCycle_expect (k : CycleKind) (e : Option Byte) (sh : ReplyShape) : (s.startCycle k e sh).expect = e := rfl
@[simp] theorem State.startCycle_shape (k : CycleKind) (e : Option Byte) (sh : ReplyShape) : (s.startCycle k e sh).shape = sh := rfl
@[simp] theorem State.startCycle_rxbuf (k : CycleKind) (e : Option Byte) (sh : ReplyShape) : (s.startCycle k e sh).rxbuf = [] := rfl
@[simp] theorem State.startCycle_idleCnt (k : CycleKind) (e : Option Byte) (sh : ReplyShape) : (s.startCycle k e sh).idleCnt = 0 := rfl
@[simp] theorem State.startCycle_overflow (k : CycleKind) (e : Option Byte) (sh : ReplyShape) : (s.startCycle k e sh).overflow = false := rfl
@[simp] theorem State.startCycle_cl (k : CycleKind) (e : Option Byte) (sh : ReplyShape) : (s.startCycle k e sh).cl = s.cl := rfl
@[simp] theorem State.startCycle_idleThreshold (k : CycleKind) (e : Option Byte) (sh : ReplyShape) : (s.startCycle k e sh).idleThreshold = s.idleThreshold := rfl
@[simp] theorem State.startCycle_tsMode (k : CycleKind) (e : Option Byte) (sh : ReplyShape) : (s.startCycle k e sh).tsMode = s.tsMode := rfl
@[simp] theorem State.startCycle_crMode (k : CycleKind) (e : Option Byte) (sh : ReplyShape) : (s.startCycle k e sh).crMode = s.crMode := rfl
@[simp] theorem State.startCycle_acqActive (k : CycleKind) (e : Option Byte) (sh : ReplyShape) : (s.startCycle k e sh).acqActive = s.acqActive := rfl
@[simp] theorem State.startCycle_abortPending (k : CycleKind) (e : Option Byte) (sh : ReplyShape) : (s.startCycle k e sh).abortPending = s.abortPending := rfl
@[simp] theorem State.startCycle_lastErr (k : CycleKind) (e : Option Byte) (sh : ReplyShape) : (s.startCycle k e sh).lastErr = s.lastErr := rfl
@[simp] theorem State.startCycle_resultOut (k : CycleKind) (e : Option Byte) (sh : ReplyShape) : (s.startCycle k e sh).resultOut = s.resultOut := rfl
@[simp] theorem State.startCycle_sampleOut (k : CycleKind) (e : Option Byte) (sh : ReplyShape) : (s.startCycle k e sh).sampleOut = s.sampleOut := rfl
@[simp] theorem State.startCycle_errorOut (k : CycleKind) (e : Option Byte) (sh : ReplyShape) : (s.startCycle k e sh).errorOut = s.errorOut := rfl
@[simp] theorem State.startCycle_txOut (k : CycleKind) (e : Option Byte) (sh : ReplyShape) : (s.startCycle k e sh).txOut = s.txOut := rfl
@[simp] theorem State.startCycle_waiting (k : CycleKind) (e : Option Byte) (sh : ReplyShape) : (s.startCycle k e sh).waiting = s.waiting := rfl
@[simp] theorem State.startCycle_txAnswer (k : CycleKind) (e : Option Byte) (sh : ReplyShape) : (s.startCycle k e sh).txAnswer = s.txAnswer := rfl
@[simp] theorem State.startCycle_script (k : CycleKind) (e : Option Byte) (sh : ReplyShape) : (s.startCycle k e sh).script = s.script := rfl
@[simp] theorem State.startCycle_envIdx (k : CycleKind) (e : Option Byte) (sh : ReplyShape) : (s.startCycle k e sh).envIdx = s.envIdx := rfl

@[simp] theorem State.recordClassified_cfg (c : Classified) : (s.recordClassified c).cfg = s.cfg := rfl
@[simp] theorem State.recordClassified_phase (c : Classified) : (s.recordClassified c).phase = s.phase := rfl
@[simp] theorem State.recordClassified_cycleKind (c : Classified) : (s.recordClassified c).cycleKind = s.cycleKind := rfl
@[simp] theorem State.recordClassified_expect (c : Classified) : (s.recordClassified c).expect = s.expect := rfl
@[simp] theorem State.recordClassified_shape (c : Classified) : (s.recordClassified c).shape = s.shape := rfl
@[simp] theorem State.recordClassified_rxbuf (c : Classified) : (s.recordClassified c).rxbuf = s.rxbuf := rfl
@[simp] theorem State.recordClassified_idleCnt (c : Classified) : (s.recordClassified c).idleCnt = s.idleCnt := rfl
@[simp] theorem State.recordClassified_overflow (c : Classified) : (s.recordClassified c).overflow = s.overflow := rfl
@[simp] theorem State.recordClassified_cl (c : Classified) : (s.recordClassified c).cl = c.cl := rfl
@[simp] theorem State.recordClassified_idleThreshold (c : Classified) : (s.recordClassified c).idleThreshold = s.idleThreshold := rfl
@[simp] theorem State.recordClassified_tsMode (c : Classified) : (s.recordClassified c).tsMode = s.tsMode := rfl
@[simp] theorem State.recordClassified_crMode (c : Classified) : (s.recordClassified c).crMode = s.crMode := rfl
@[simp] theorem State.recordClassified_acqActive (c : Classified) : (s.recordClassified c).acqActive = s.acqActive := rfl
@[simp] theorem State.recordClassified_abortPending (c : Classified) : (s.recordClassified c).abortPending = s.abortPending := rfl
@[simp] theorem State.recordClassified_lastErr (c : Classified) : (s.recordClassified c).lastErr = s.lastErr := rfl
@[simp] theorem State.recordClassified_resultOut (c : Classified) : (s.recordClassified c).resultOut = s.resultOut := rfl
@[simp] theorem State.recordClassified_sampleOut (c : Classified) : (s.recordClassified c).sampleOut = s.sampleOut ++ c.samples := rfl
@[simp] theorem State.recordClassified_errorOut (c : Classified) : (s.recordClassified c).errorOut = s.errorOut := rfl
@[simp] theorem State.recordClassified_txOut (c : Classified) : (s.recordClassified c).txOut = s.txOut := rfl
@[simp] theorem State.recordClassified_waiting (c : Classified) : (s.recordClassified c).waiting = s.waiting := rfl
@[simp] theorem State.recordClassified_txAnswer (c : Classified) : (s.recordClassified c).txAnswer = s.txAnswer := rfl
@[simp] theorem State.recordClassified_script (c : Classified) : (s.recordClassified c).script = s.script := rfl
@[simp] theorem State.recordClassified_envIdx (c : Classified) : (s.recordClassified c).envIdx = s.envIdx := rfl

@[simp] theorem State.endCycle_cfg : (s.endCycle).cfg = s.cfg := rfl
@[simp] theorem State.endCycle_phase : (s.endCycle).phase = .ready := rfl
@[simp] theorem State.endCycle_cycleKind : (s.endCycle).cycleKind = s.cycleKind := rfl
@[simp] theorem State.endCycle_expect : (s.endCycle).expect = s.expect := rfl
@[simp] theorem State.endCycle_shape : (s.endCycle).shape = s.shape := rfl
@[simp] theorem State.endCycle_rxbuf : (s.endCycle).rxbuf = s.rxbuf := rfl
@[simp] theorem State.endCycle_idleCnt : (s.endCycle).idleCnt = s.idleCnt := rfl
@[simp] theorem State.endCycle_overflow : (s.endCycle).overflow = s.overflow := rfl
@[simp] theorem State.endCycle_cl : (s.endCycle).cl = s.cl := rfl
@[simp] theorem State.endCycle_idleThreshold : (s.endCycle).idleThreshold = s.idleThreshold := rfl
@[simp] theorem State.endCycle_tsMode : (s.endCycle).tsMode = s.tsMode := rfl
@[simp] theorem State.endCycle_crMode : (s.endCycle).crMode = s.crMode := rfl
@[simp] theorem State.endCycle_acqActive : (s.endCycle).acqActive = s.acqActive := rfl
@[simp] theorem State.endCycle_abortPending : (s.endCycle).abortPending = s.abortPending := rfl
@[simp] theorem State.endCycle_lastErr : (s.endCycle).lastErr = s.lastErr := rfl
@[simp] theorem State.endCycle_resultOut : (s.endCycle).resultOut = s.resultOut := rfl
@[simp] theorem State.endCycle_sampleOut : (s.endCycle).sampleOut = s.sampleOut := rfl
@[simp] theorem State.endCycle_errorOut : (s.endCycle).errorOut = s.errorOut := rfl
@[simp] theorem State.endCycle_txOut : (s.endCycle).txOut = s.txOut := rfl
@[simp] theorem State.endCycle_waiting : (s.endCycle).waiting = s.waiting := rfl
@[simp] theorem State.endCycle_txAnswer : (s.endCycle).txAnswer = s.txAnswer := rfl
@[simp] theorem State.endCycle_script : (s.endCycle).script = s.script := rfl
@[simp] theorem State.endCycle_envIdx : (s.endCycle).envIdx = s.envIdx := rfl

@[simp] theorem State.countIdle_cfg : (s.countIdle).cfg = s.cfg := rfl
@[simp] theorem State.countIdle_phase : (s.countIdle).phase = s.phase := rfl
@[simp] theorem State.countIdle_cycleKind : (s.countIdle).cycleKind = s.cycleKind := rfl
@[simp] theorem State.countIdle_expect : (s.countIdle).expect = s.expect := rfl
@[simp] theorem State.countIdle_shape : (s.countIdle).shape = s.shape := rfl
@[simp] theorem State.countIdle_rxbuf : (s.countIdle).rxbuf = s.rxbuf := rfl
@[simp] theorem State.countIdle_idleCnt : (s.countIdle).idleCnt = s.idleCnt + 1 := rfl
@[simp] theorem State.countIdle_overflow : (s.countIdle).overflow = s.overflow := rfl
@[simp] theorem State.countIdle_cl : (s.countIdle).cl = s.cl := rfl
@[simp] theorem State.countIdle_idleThreshold : (s.countIdle).idleThreshold = s.idleThreshold := rfl
@[simp] theorem State.countIdle_tsMode : (s.countIdle).tsMode = s.tsMode := rfl
@[simp] theorem State.countIdle_crMode : (s.countIdle).crMode = s.crMode := rfl
@[simp] theorem State.countIdle_acqActive : (s.countIdle).acqActive = s.acqActive := rfl
@[simp] theorem State.countIdle_abortPending : (s.countIdle).abortPending = s.abortPending := rfl
@[simp] theorem State.countIdle_lastErr : (s.countIdle).lastErr = s.lastErr := rfl
@[simp] theorem State.countIdle_resultOut : (s.countIdle).resultOut = s.resultOut := rfl
@[simp] theorem State.countIdle_sampleOut : (s.countIdle).sampleOut = s.sampleOut := rfl
@[simp] theorem State.countIdle_errorOut : (s.countIdle).errorOut = s.errorOut := rfl
@[simp] theorem State.countIdle_txOut : (s.countIdle).txOut = s.txOut := rfl
@[simp] theorem State.countIdle_waiting : (s.countIdle).waiting = s.waiting := rfl
@[simp] theorem State.countIdle_txAnswer : (s.countIdle).txAnswer = s.txAnswer := rfl
@[simp] theorem State.countIdle_script : (s.countIdle).script = s.script := rfl
@[simp] theorem State.countIdle_envIdx : (s.countIdle).envIdx = s.envIdx := rfl

@[simp] theorem State.drainTransport_cfg : (s.drainTransport).cfg = s.cfg := rfl
@[simp] theorem State.drainTransport_phase : (s.drainTransport).phase = s.phase := rfl
@[simp] theorem State.drainTransport_cycleKind : (s.drainTransport).cycleKind = s.cycleKind := rfl
@[simp] theorem State.drainTransport_expect : (s.drainTransport).expect = s.expect := rfl
@[simp] theorem State.drainTransport_shape : (s.drainTransport).shape = s.shape := rfl
@[simp] theorem State.drainTransport_rxbuf : (s.drainTransport).rxbuf = s.rxbuf := rfl
@[simp] theorem State.drainTransport_idleCnt : (s.drainTransport).idleCnt = s.idleCnt := rfl
@[simp] theorem State.drainTransport_overflow : (s.drainTransport).overflow = s.overflow := rfl
@[simp] theorem State.drainTransport_cl : (s.drainTransport).cl = s.cl := rfl
@[simp] theorem State.drainTransport_idleThreshold : (s.drainTransport).idleThreshold = s.idleThreshold := rfl
@[simp] theorem State.drainTransport_tsMode : (s.drainTransport).tsMode = s.tsMode := rfl
@[simp] theorem State.drainTransport_crMode : (s.drainTransport).crMode = s.crMode := rfl
@[simp] theorem State.drainTransport_acqActive : (s.drainTransport).acqActive = s.acqActive := rfl
@[simp] theorem State.drainTransport_abortPending : (s.drainTransport).abortPending = s.abortPending := rfl
@[simp] theorem State.drainTransport_lastErr : (s.drainTransport).lastErr = s.lastErr := rfl
@[simp] theorem State.drainTransport_resultOut : (s.drainTransport).resultOut = s.resultOut := rfl
@[simp] theorem State.drainTransport_sampleOut : (s.drainTransport).sampleOut = s.sampleOut := rfl
@[simp] theorem State.drainTransport_errorOut : (s.drainTransport).errorOut = s.errorOut := rfl
@[simp] theorem State.drainTransport_txOut : (s.drainTransport).txOut = s.txOut := rfl
@[simp] theorem State.drainTransport_waiting : (s.drainTransport).waiting = [] := rfl
@[simp] theorem State.drainTransport_txAnswer : (s.drainTransport).txAnswer = s.txAnswer := rfl
@[simp] theorem State.drainTransport_script : (s.drainTransport).script = s.script := rfl
@[simp] theorem State.drainTransport_envIdx : (s.drainTransport).envIdx = s.envIdx := rfl

@[simp] theorem State.hold_cfg (bs : Bytes) : (s.hold bs).cfg = s.cfg := rfl
@[simp] theorem State.hold_phase (bs : Bytes) : (s.hold bs).phase = s.phase := rfl
@[simp] theorem State.hold_cycleKind (bs : Bytes) : (s.hold bs).cycleKind = s.cycleKind := rfl
@[simp] theorem State.hold_expect (bs : Bytes) : (s.hold bs).expect = s.expect := rfl
@[simp] theorem State.hold_shape (bs : Bytes) : (s.hold bs).shape = s.shape := rfl
@[simp] theorem State.hold_rxbuf (bs : Bytes) : (s.hold bs).rxbuf = s.rxbuf := rfl
@[simp] theorem State.hold_idleCnt (bs : Bytes) : (s.hold bs).idleCnt = s.idleCnt := rfl
@[simp] theorem State.hold_overflow (bs : Bytes) : (s.hold bs).overflow = s.overflow := rfl
@[simp] theorem State.hold_cl (bs : Bytes) : (s.hold bs).cl = s.cl := rfl
@[simp] theorem State.hold_idleThreshold (bs : Bytes) : (s.hold bs).idleThreshold = s.idleThreshold := rfl
@[simp] theorem State.hold_tsMode (bs : Bytes) : (s.hold bs).tsMode = s.tsMode := rfl
@[simp] theorem State.hold_crMode (bs : Bytes) : (s.hold bs).crMode = s.crMode := rfl
@[simp] theorem State.hold_acqActive (bs : Bytes) : (s.hold bs).acqActive = s.acqActive := rfl
@[simp] theorem State.hold_abortPending (bs : Bytes) : (s.hold bs).abortPending = s.abortPending := rfl
@[simp] theorem State.hold_lastErr (bs : Bytes) : (s.hold bs).lastErr = s.lastErr := rfl
@[simp] theorem State.hold_resultOut (bs : Bytes) : (s.hold bs).resultOut = s.resultOut := rfl
@[simp] theorem State.hold_sampleOut (bs : Bytes) : (s.hold bs).sampleOut = s.sampleOut := rfl
@[simp] theorem State.hold_errorOut (bs : Bytes) : (s.hold bs).errorOut = s.errorOut := rfl
@[simp] theorem State.hold_txOut (bs : Bytes) : (s.hold bs).txOut = s.txOut := rfl
@[simp] theorem State.hold_waiting (bs : Bytes) : (s.hold bs).waiting = s.waiting ++ bs := rfl
@[simp] theorem State.hold_txAnswer (bs : Bytes) : (s.hold bs).txAnswer = s.txAnswer := rfl
@[simp] theorem State.hold_script (bs : Bytes) : (s.hold bs).script = s.script := rfl
@[simp] theorem State.hold_envIdx (bs : Bytes) : (s.hold bs).envIdx = s.envIdx := rfl

@[simp] theorem State.withTxAnswer_cfg (a : TxAnswer) : (s.withTxAnswer a).cfg = s.cfg := rfl
@[simp] theorem State.withTxAnswer_phase (a : TxAnswer) : (s.withTxAnswer a).phase = s.phase := rfl
@[simp] theorem State.withTxAnswer_cycleKind (a : TxAnswer) : (s.withTxAnswer a).cycleKind = s.cycleKind := rfl
@[simp] theorem State.withTxAnswer_expect (a : TxAnswer) : (s.withTxAnswer a).expect = s.expect := rfl
@[simp] theorem State.withTxAnswer_shape (a : TxAnswer) : (s.withTxAnswer a).shape = s.shape := rfl
@[simp] theorem State.withTxAnswer_rxbuf (a : TxAnswer) : (s.withTxAnswer a).rxbuf = s.rxbuf := rfl
@[simp] theorem State.withTxAnswer_idleCnt (a : TxAnswer) : (s.withTxAnswer a).idleCnt = s.idleCnt := rfl
@[simp] theorem State.withTxAnswer_overflow (a : TxAnswer) : (s.withTxAnswer a).overflow = s.overflow := rfl
@[simp] theorem State.withTxAnswer_cl (a : TxAnswer) : (s.withTxAnswer a).cl = s.cl := rfl
@[simp] theorem State.withTxAnswer_idleThreshold (a : TxAnswer) : (s.withTxAnswer a).idleThreshold = s.idleThreshold := rfl
@[simp] theorem State.withTxAnswer_tsMode (a : TxAnswer) : (s.withTxAnswer a).tsMode = s.tsMode := rfl
@[simp] theorem State.withTxAnswer_crMode (a : TxAnswer) : (s.withTxAnswer a).crMode = s.crMode := rfl
@[simp] theorem State.withTxAnswer_acqActive (a : TxAnswer) : (s.withTxAnswer a).acqActive = s.acqActive := rfl
@[simp] theorem State.withTxAnswer_abortPending (a : TxAnswer) : (s.withTxAnswer a).abortPending = s.abortPending := rfl
@[simp] theorem State.withTxAnswer_lastErr (a : TxAnswer) : (s.withTxAnswer a).lastErr = s.lastErr := rfl
@[simp] theorem State.withTxAnswer_resultOut (a : TxAnswer) : (s.withTxAnswer a).resultOut = s.resultOut := rfl
@[simp] theorem State.withTxAnswer_sampleOut (a : TxAnswer) : (s.withTxAnswer a).sampleOut = s.sampleOut := rfl
@[simp] theorem State.withTxAnswer_errorOut (a : TxAnswer) : (s.withTxAnswer a).errorOut = s.errorOut := rfl
@[simp] theorem State.withTxAnswer_txOut (a : TxAnswer) : (s.withTxAnswer a).txOut = s.txOut := rfl
@[simp] theorem State.withTxAnswer_waiting (a : TxAnswer) : (s.withTxAnswer a).waiting = s.waiting := rfl
@[simp] theorem State.withTxAnswer_txAnswer (a : TxAnswer) : (s.withTxAnswer a).txAnswer = a := rfl
@[simp] theorem State.withTxAnswer_script (a : TxAnswer) : (s.withTxAnswer a).script = s.script := rfl
@[simp] theorem State.withTxAnswer_envIdx (a : TxAnswer) : (s.withTxAnswer a).envIdx = s.envIdx := rfl

@[simp] theorem State.writeFormat_cfg (ts : TsMode) (cr : CrMode) : (s.writeFormat ts cr).cfg = s.cfg := rfl
@[simp] theorem State.writeFormat_phase (ts : TsMode) (cr : CrMode) : (s.writeFormat ts cr).phase = s.phase := rfl
@[simp] theorem State.writeFormat_cycleKind (ts : TsMode) (cr : CrMode) : (s.writeFormat ts cr).cycleKind = s.cycleKind := rfl
@[simp] theorem State.writeFormat_expect (ts : TsMode) (cr : CrMode) : (s.writeFormat ts cr).expect = s.expect := rfl
@[simp] theorem State.writeFormat_shape (ts : TsMode) (cr : CrMode) : (s.writeFormat ts cr).shape = s.shape := rfl
@[simp] theorem State.writeFormat_rxbuf (ts : TsMode) (cr : CrMode) : (s.writeFormat ts cr).rxbuf = s.rxbuf := rfl
@[simp] theorem State.writeFormat_idleCnt (ts : TsMode) (cr : CrMode) : (s.writeFormat ts cr).idleCnt = s.idleCnt := rfl
@[simp] theorem State.writeFormat_overflow (ts : TsMode) (cr : CrMode) : (s.writeFormat ts cr).overflow = s.overflow := rfl
@[simp] theorem State.writeFormat_cl (ts : TsMode) (cr : CrMode) : (s.writeFormat ts cr).cl = s.cl := rfl
@[simp] theorem State.writeFormat_idleThreshold (ts : TsMode) (cr : CrMode) : (s.writeFormat ts cr).idleThreshold = s.idleThreshold := rfl
@[simp] theorem State.writeFormat_tsMode (ts : TsMode) (cr : CrMode) : (s.writeFormat ts cr).tsMode = ts := rfl
@[simp] theorem State.writeFormat_crMode (ts : TsMode) (cr : CrMode) : (s.writeFormat ts cr).crMode = cr := rfl
@[simp] theorem State.writeFormat_acqActive (ts : TsMode) (cr : CrMode) : (s.writeFormat ts cr).acqActive = s.acqActive := rfl
@[simp] theorem State.writeFormat_abortPending (ts : TsMode) (cr : CrMode) : (s.writeFormat ts cr).abortPending = s.abortPending := rfl
@[simp] theorem State.writeFormat_lastErr (ts : TsMode) (cr : CrMode) : (s.writeFormat ts cr).lastErr = s.lastErr := rfl
@[simp] theorem State.writeFormat_resultOut (ts : TsMode) (cr : CrMode) : (s.writeFormat ts cr).resultOut = s.resultOut := rfl
@[simp] theorem State.writeFormat_sampleOut (ts : TsMode) (cr : CrMode) : (s.writeFormat ts cr).sampleOut = s.sampleOut := rfl
@[simp] theorem State.writeFormat_errorOut (ts : TsMode) (cr : CrMode) : (s.writeFormat ts cr).errorOut = s.errorOut := rfl
@[simp] theorem State.writeFormat_txOut (ts : TsMode) (cr : CrMode) : (s.writeFormat ts cr).txOut = s.txOut := rfl
@[simp] theorem State.writeFormat_waiting (ts : TsMode) (cr : CrMode) : (s.writeFormat ts cr).waiting = s.waiting := rfl
@[simp] theorem State.writeFormat_txAnswer (ts : TsMode) (cr : CrMode) : (s.writeFormat ts cr).txAnswer = s.txAnswer := rfl
@[simp] theorem State.writeFormat_script (ts : TsMode) (cr : CrMode) : (s.writeFormat ts cr).script = s.script := rfl
@[simp] theorem State.writeFormat_envIdx (ts : TsMode) (cr : CrMode) : (s.writeFormat ts cr).envIdx = s.envIdx := rfl

@[simp] theorem State.writeThreshold_cfg (n : Nat) : (s.writeThreshold n).cfg = s.cfg := rfl
@[simp] theorem State.writeThreshold_phase (n : Nat) : (s.writeThreshold n).phase = s.phase := rfl
@[simp] theorem State.writeThreshold_cycleKind (n : Nat) : (s.writeThreshold n).cycleKind = s.cycleKind := rfl
@[simp] theorem State.writeThreshold_expect (n : Nat) : (s.writeThreshold n).expect = s.expect := rfl
@[simp] theorem State.writeThreshold_shape (n : Nat) : (s.writeThreshold n).shape = s.shape := rfl
@[simp] theorem State.writeThreshold_rxbuf (n : Nat) : (s.writeThreshold n).rxbuf = s.rxbuf := rfl
@[simp] theorem State.writeThreshold_idleCnt (n : Nat) : (s.writeThreshold n).idleCnt = s.idleCnt := rfl
@[simp] theorem State.writeThreshold_overflow (n : Nat) : (s.writeThreshold n).overflow = s.overflow := rfl
@[simp] theorem State.writeThreshold_cl (n : Nat) : (s.writeThreshold n).cl = s.cl := rfl
@[simp] theorem State.writeThreshold_idleThreshold (n : Nat) : (s.writeThreshold n).idleThreshold = n := rfl
@[simp] theorem State.writeThreshold_tsMode (n : Nat) : (s.writeThreshold n).tsMode = s.tsMode := rfl
@[simp] theorem State.writeThreshold_crMode (n : Nat) : (s.writeThreshold n).crMode = s.crMode := rfl
@[simp] theorem State.writeThreshold_acqActive (n : Nat) : (s.writeThreshold n).acqActive = s.acqActive := rfl
@[simp] theorem State.writeThreshold_abortPending (n : Nat) : (s.writeThreshold n).abortPending = s.abortPending := rfl
@[simp] theorem State.writeThreshold_lastErr (n : Nat) : (s.writeThreshold n).lastErr = s.lastErr := rfl
@[simp] theorem State.writeThreshold_resultOut (n : Nat) : (s.writeThreshold n).resultOut = s.resultOut := rfl
@[simp] theorem State.writeThreshold_sampleOut (n : Nat) : (s.writeThreshold n).sampleOut = s.sampleOut := rfl
@[simp] theorem State.writeThreshold_errorOut (n : Nat) : (s.writeThreshold n).errorOut = s.errorOut := rfl
@[simp] theorem State.writeThreshold_txOut (n : Nat) : (s.writeThreshold n).txOut = s.txOut := rfl
@[simp] theorem State.writeThreshold_waiting (n : Nat) : (s.writeThreshold n).waiting = s.waiting := rfl
@[simp] theorem State.writeThreshold_txAnswer (n : Nat) : (s.writeThreshold n).txAnswer = s.txAnswer := rfl
@[simp] theorem State.writeThreshold_script (n : Nat) : (s.writeThreshold n).script = s.script := rfl
@[simp] theorem State.writeThreshold_envIdx (n : Nat) : (s.writeThreshold n).envIdx = s.envIdx := rfl

@[simp] theorem State.decline_cfg (r : RefuseReason) : (s.decline r).cfg = s.cfg := rfl
@[simp] theorem State.decline_phase (r : RefuseReason) : (s.decline r).phase = s.phase := rfl
@[simp] theorem State.decline_cycleKind (r : RefuseReason) : (s.decline r).cycleKind = s.cycleKind := rfl
@[simp] theorem State.decline_expect (r : RefuseReason) : (s.decline r).expect = s.expect := rfl
@[simp] theorem State.decline_shape (r : RefuseReason) : (s.decline r).shape = s.shape := rfl
@[simp] theorem State.decline_rxbuf (r : RefuseReason) : (s.decline r).rxbuf = s.rxbuf := rfl
@[simp] theorem State.decline_idleCnt (r : RefuseReason) : (s.decline r).idleCnt = s.idleCnt := rfl
@[simp] theorem State.decline_overflow (r : RefuseReason) : (s.decline r).overflow = s.overflow := rfl
@[simp] theorem State.decline_cl (r : RefuseReason) : (s.decline r).cl = s.cl := rfl
@[simp] theorem State.decline_idleThreshold (r : RefuseReason) : (s.decline r).idleThreshold = s.idleThreshold := rfl
@[simp] theorem State.decline_tsMode (r : RefuseReason) : (s.decline r).tsMode = s.tsMode := rfl
@[simp] theorem State.decline_crMode (r : RefuseReason) : (s.decline r).crMode = s.crMode := rfl
@[simp] theorem State.decline_acqActive (r : RefuseReason) : (s.decline r).acqActive = s.acqActive := rfl
@[simp] theorem State.decline_abortPending (r : RefuseReason) : (s.decline r).abortPending = s.abortPending := rfl
@[simp] theorem State.decline_lastErr (r : RefuseReason) : (s.decline r).lastErr = s.lastErr := rfl
@[simp] theorem State.decline_resultOut (r : RefuseReason) : (s.decline r).resultOut = s.resultOut ++ [.refused r] := rfl
@[simp] theorem State.decline_sampleOut (r : RefuseReason) : (s.decline r).sampleOut = s.sampleOut := rfl
@[simp] theorem State.decline_errorOut (r : RefuseReason) : (s.decline r).errorOut = s.errorOut := rfl
@[simp] theorem State.decline_txOut (r : RefuseReason) : (s.decline r).txOut = s.txOut := rfl
@[simp] theorem State.decline_waiting (r : RefuseReason) : (s.decline r).waiting = s.waiting := rfl
@[simp] theorem State.decline_txAnswer (r : RefuseReason) : (s.decline r).txAnswer = s.txAnswer := rfl
@[simp] theorem State.decline_script (r : RefuseReason) : (s.decline r).script = s.script := rfl
@[simp] theorem State.decline_envIdx (r : RefuseReason) : (s.decline r).envIdx = s.envIdx := rfl

@[simp] theorem State.append_cfg (bs : Bytes) : (s.append bs).cfg = s.cfg := by unfold State.append; split <;> rfl
@[simp] theorem State.append_phase (bs : Bytes) : (s.append bs).phase = s.phase := by unfold State.append; split <;> rfl
@[simp] theorem State.append_cycleKind (bs : Bytes) : (s.append bs).cycleKind = s.cycleKind := by unfold State.append; split <;> rfl
@[simp] theorem State.append_expect (bs : Bytes) : (s.append bs).expect = s.expect := by unfold State.append; split <;> rfl
@[simp] theorem State.append_shape (bs : Bytes) : (s.append bs).shape = s.shape := by unfold State.append; split <;> rfl
@[simp] theorem State.append_idleCnt (bs : Bytes) : (s.append bs).idleCnt = s.idleCnt := by unfold State.append; split <;> rfl
@[simp] theorem State.append_cl (bs : Bytes) : (s.append bs).cl = s.cl := by unfold State.append; split <;> rfl
@[simp] theorem State.append_idleThreshold (bs : Bytes) : (s.append bs).idleThreshold = s.idleThreshold := by unfold State.append; split <;> rfl
@[simp] theorem State.append_tsMode (bs : Bytes) : (s.append bs).tsMode = s.tsMode := by unfold State.append; split <;> rfl
@[simp] theorem State.append_crMode (bs : Bytes) : (s.append bs).crMode = s.crMode := by unfold State.append; split <;> rfl
@[simp] theorem State.append_acqActive (bs : Bytes) : (s.append bs).acqActive = s.acqActive := by unfold State.append; split <;> rfl
@[simp] theorem State.append_abortPending (bs : Bytes) : (s.append bs).abortPending = s.abortPending := by unfold State.append; split <;> rfl
@[simp] theorem State.append_lastErr (bs : Bytes) : (s.append bs).lastErr = s.lastErr := by unfold State.append; split <;> rfl
@[simp] theorem State.append_resultOut (bs : Bytes) : (s.append bs).resultOut = s.resultOut := by unfold State.append; split <;> rfl
@[simp] theorem State.append_sampleOut (bs : Bytes) : (s.append bs).sampleOut = s.sampleOut := by unfold State.append; split <;> rfl
@[simp] theorem State.append_errorOut (bs : Bytes) : (s.append bs).errorOut = s.errorOut := by unfold State.append; split <;> rfl
@[simp] theorem State.append_txOut (bs : Bytes) : (s.append bs).txOut = s.txOut := by unfold State.append; split <;> rfl
@[simp] theorem State.append_waiting (bs : Bytes) : (s.append bs).waiting = s.waiting := by unfold State.append; split <;> rfl
@[simp] theorem State.append_txAnswer (bs : Bytes) : (s.append bs).txAnswer = s.txAnswer := by unfold State.append; split <;> rfl
@[simp] theorem State.append_script (bs : Bytes) : (s.append bs).script = s.script := by unfold State.append; split <;> rfl
@[simp] theorem State.append_envIdx (bs : Bytes) : (s.append bs).envIdx = s.envIdx := by unfold State.append; split <;> rfl

@[simp] theorem State.readData_cfg (bs : Bytes) : (s.readData bs).cfg = s.cfg := by unfold State.readData State.append; split <;> rfl
@[simp] theorem State.readData_phase (bs : Bytes) : (s.readData bs).phase = s.phase := by unfold State.readData State.append; split <;> rfl
@[simp] theorem State.readData_cycleKind (bs : Bytes) : (s.readData bs).cycleKind = s.cycleKind := by unfold State.readData State.append; split <;> rfl
@[simp] theorem State.readData_expect (bs : Bytes) : (s.readData bs).expect = s.expect := by unfold State.readData State.append; split <;> rfl
@[simp] theorem State.readData_shape (bs : Bytes) : (s.readData bs).shape = s.shape := by unfold State.readData State.append; split <;> rfl
@[simp] theorem State.readData_rxbuf (bs : Bytes) : (s.readData bs).rxbuf = (s.append bs).rxbuf := by unfold State.readData State.append; split <;> rfl
@[simp] theorem State.readData_idleCnt (bs : Bytes) : (s.readData bs).idleCnt = 0 := by unfold State.readData State.append; split <;> rfl
@[simp] theorem State.readData_overflow (bs : Bytes) : (s.readData bs).overflow = (s.append bs).overflow := by unfold State.readData State.append; split <;> rfl
@[simp] theorem State.readData_cl (bs : Bytes) : (s.readData bs).cl = s.cl := by unfold State.readData State.append; split <;> rfl
@[simp] theorem State.readData_idleThreshold (bs : Bytes) : (s.readData bs).idleThreshold = s.idleThreshold := by unfold State.readData State.append; split <;> rfl
@[simp] theorem State.readData_tsMode (bs : Bytes) : (s.readData bs).tsMode = s.tsMode := by unfold State.readData State.append; split <;> rfl
@[simp] theorem State.readData_crMode (bs : Bytes) : (s.readData bs).crMode = s.crMode := by unfold State.readData State.append; split <;> rfl
@[simp] theorem State.readData_acqActive (bs : Bytes) : (s.readData bs).acqActive = s.acqActive := by unfold State.readData State.append; split <;> rfl
@[simp] theorem State.readData_abortPending (bs : Bytes) : (s.readData bs).abortPending = s.abortPending := by unfold State.readData State.append; split <;> rfl
@[simp] theorem State.readData_lastErr (bs : Bytes) : (s.readData bs).lastErr = s.lastErr := by unfold State.readData State.append; split <;> rfl
@[simp] theorem State.readData_resultOut (bs : Bytes) : (s.readData bs).resultOut = s.resultOut := by unfold State.readData State.append; split <;> rfl
@[simp] theorem State.readData_sampleOut (bs : Bytes) : (s.readData bs).sampleOut = s.sampleOut := by unfold State.readData State.append; split <;> rfl
@[simp] theorem State.readData_errorOut (bs : Bytes) : (s.readData bs).errorOut = s.errorOut := by unfold State.readData State.append; split <;> rfl
@[simp] theorem State.readData_txOut (bs : Bytes) : (s.readData bs).txOut = s.txOut := by unfold State.readData State.append; split <;> rfl
@[simp] theorem State.readData_waiting (bs : Bytes) : (s.readData bs).waiting = s.waiting := by unfold State.readData State.append; split <;> rfl
@[simp] theorem State.readData_txAnswer (bs : Bytes) : (s.readData bs).txAnswer = s.txAnswer := by unfold State.readData State.append; split <;> rfl
@[simp] theorem State.readData_script (bs : Bytes) : (s.readData bs).script = s.script := by unfold State.readData State.append; split <;> rfl
@[simp] theorem State.readData_envIdx (bs : Bytes) : (s.readData bs).envIdx = s.envIdx := by unfold State.readData State.append; split <;> rfl

@[simp] theorem State.deliver_cfg (o : Report) : (s.deliver o).cfg = s.cfg := by cases o <;> rfl
@[simp] theorem State.deliver_phase (o : Report) : (s.deliver o).phase = s.phase := by cases o <;> rfl
@[simp] theorem State.deliver_cycleKind (o : Report) : (s.deliver o).cycleKind = s.cycleKind := by cases o <;> rfl
@[simp] theorem State.deliver_expect (o : Report) : (s.deliver o).expect = s.expect := by cases o <;> rfl
@[simp] theorem State.deliver_shape (o : Report) : (s.deliver o).shape = s.shape := by cases o <;> rfl
@[simp] theorem State.deliver_rxbuf (o : Report) : (s.deliver o).rxbuf = s.rxbuf := by cases o <;> rfl
@[simp] theorem State.deliver_idleCnt (o : Report) : (s.deliver o).idleCnt = s.idleCnt := by cases o <;> rfl
@[simp] theorem State.deliver_overflow (o : Report) : (s.deliver o).overflow = s.overflow := by cases o <;> rfl
@[simp] theorem State.deliver_cl (o : Report) : (s.deliver o).cl = s.cl := by cases o <;> rfl
@[simp] theorem State.deliver_idleThreshold (o : Report) : (s.deliver o).idleThreshold = s.idleThreshold := by cases o <;> rfl
@[simp] theorem State.deliver_tsMode (o : Report) : (s.deliver o).tsMode = s.tsMode := by cases o <;> rfl
@[simp] theorem State.deliver_crMode (o : Report) : (s.deliver o).crMode = s.crMode := by cases o <;> rfl
@[simp] theorem State.deliver_acqActive (o : Report) : (s.deliver o).acqActive = s.acqActive := by cases o <;> rfl
@[simp] theorem State.deliver_abortPending (o : Report) : (s.deliver o).abortPending = s.abortPending := by cases o <;> rfl
@[simp] theorem State.deliver_resultOut (o : Report) : (s.deliver o).resultOut = s.resultOut ++ [o] := by cases o <;> rfl
@[simp] theorem State.deliver_sampleOut (o : Report) : (s.deliver o).sampleOut = s.sampleOut := by cases o <;> rfl
@[simp] theorem State.deliver_txOut (o : Report) : (s.deliver o).txOut = s.txOut := by cases o <;> rfl
@[simp] theorem State.deliver_waiting (o : Report) : (s.deliver o).waiting = s.waiting := by cases o <;> rfl
@[simp] theorem State.deliver_txAnswer (o : Report) : (s.deliver o).txAnswer = s.txAnswer := by cases o <;> rfl
@[simp] theorem State.deliver_script (o : Report) : (s.deliver o).script = s.script := by cases o <;> rfl
@[simp] theorem State.deliver_envIdx (o : Report) : (s.deliver o).envIdx = s.envIdx := by cases o <;> rfl

@[simp] theorem State.applyEffects_cfg (o : Report) : (s.applyEffects o).cfg = s.cfg := by cases o <;> simp only [State.applyEffects] <;> (try split) <;> rfl
@[simp] theorem State.applyEffects_phase (o : Report) : (s.applyEffects o).phase = s.phase := by cases o <;> simp only [State.applyEffects] <;> (try split) <;> rfl
@[simp] theorem State.applyEffects_cycleKind (o : Report) : (s.applyEffects o).cycleKind = s.cycleKind := by cases o <;> simp only [State.applyEffects] <;> (try split) <;> rfl
@[simp] theorem State.applyEffects_expect (o : Report) : (s.applyEffects o).expect = s.expect := by cases o <;> simp only [State.applyEffects] <;> (try split) <;> rfl
@[simp] theorem State.applyEffects_shape (o : Report) : (s.applyEffects o).shape = s.shape := by cases o <;> simp only [State.applyEffects] <;> (try split) <;> rfl
@[simp] theorem State.applyEffects_rxbuf (o : Report) : (s.applyEffects o).rxbuf = s.rxbuf := by cases o <;> simp only [State.applyEffects] <;> (try split) <;> rfl
@[simp] theorem State.applyEffects_idleCnt (o : Report) : (s.applyEffects o).idleCnt = s.idleCnt := by cases o <;> simp only [State.applyEffects] <;> (try split) <;> rfl
@[simp] theorem State.applyEffects_overflow (o : Report) : (s.applyEffects o).overflow = s.overflow := by cases o <;> simp only [State.applyEffects] <;> (try split) <;> rfl
@[simp] theorem State.applyEffects_cl (o : Report) : (s.applyEffects o).cl = s.cl := by cases o <;> simp only [State.applyEffects] <;> (try split) <;> rfl
@[simp] theorem State.applyEffects_idleThreshold (o : Report) : (s.applyEffects o).idleThreshold = s.idleThreshold := by cases o <;> simp only [State.applyEffects] <;> (try split) <;> rfl
@[simp] theorem State.applyEffects_tsMode (o : Report) : (s.applyEffects o).tsMode = s.tsMode := by cases o <;> simp only [State.applyEffects] <;> (try split) <;> rfl
@[simp] theorem State.applyEffects_crMode (o : Report) : (s.applyEffects o).crMode = s.crMode := by cases o <;> simp only [State.applyEffects] <;> (try split) <;> rfl
@[simp] theorem State.applyEffects_lastErr (o : Report) : (s.applyEffects o).lastErr = s.lastErr := by cases o <;> simp only [State.applyEffects] <;> (try split) <;> rfl
@[simp] theorem State.applyEffects_resultOut (o : Report) : (s.applyEffects o).resultOut = s.resultOut := by cases o <;> simp only [State.applyEffects] <;> (try split) <;> rfl
@[simp] theorem State.applyEffects_sampleOut (o : Report) : (s.applyEffects o).sampleOut = s.sampleOut := by cases o <;> simp only [State.applyEffects] <;> (try split) <;> rfl
@[simp] theorem State.applyEffects_errorOut (o : Report) : (s.applyEffects o).errorOut = s.errorOut := by cases o <;> simp only [State.applyEffects] <;> (try split) <;> rfl
@[simp] theorem State.applyEffects_txOut (o : Report) : (s.applyEffects o).txOut = s.txOut := by cases o <;> simp only [State.applyEffects] <;> (try split) <;> rfl
@[simp] theorem State.applyEffects_waiting (o : Report) : (s.applyEffects o).waiting = s.waiting := by cases o <;> simp only [State.applyEffects] <;> (try split) <;> rfl
@[simp] theorem State.applyEffects_txAnswer (o : Report) : (s.applyEffects o).txAnswer = s.txAnswer := by cases o <;> simp only [State.applyEffects] <;> (try split) <;> rfl
@[simp] theorem State.applyEffects_script (o : Report) : (s.applyEffects o).script = s.script := by cases o <;> simp only [State.applyEffects] <;> (try split) <;> rfl
@[simp] theorem State.applyEffects_envIdx (o : Report) : (s.applyEffects o).envIdx = s.envIdx := by cases o <;> simp only [State.applyEffects] <;> (try split) <;> rfl

@[simp] theorem State.takeInput_cfg : (s.takeInput).cfg = s.cfg := by unfold State.takeInput; split <;> rfl
@[simp] theorem State.takeInput_phase : (s.takeInput).phase = s.phase := by unfold State.takeInput; split <;> rfl
@[simp] theorem State.takeInput_cycleKind : (s.takeInput).cycleKind = s.cycleKind := by unfold State.takeInput; split <;> rfl
@[simp] theorem State.takeInput_expect : (s.takeInput).expect = s.expect := by unfold State.takeInput; split <;> rfl
@[simp] theorem State.takeInput_shape : (s.takeInput).shape = s.shape := by unfold State.takeInput; split <;> rfl
@[simp] theorem State.takeInput_rxbuf : (s.takeInput).rxbuf = s.rxbuf := by unfold State.takeInput; split <;> rfl
@[simp] theorem State.takeInput_idleCnt : (s.takeInput).idleCnt = s.idleCnt := by unfold State.takeInput; split <;> rfl
@[simp] theorem State.takeInput_overflow : (s.takeInput).overflow = s.overflow := by unfold State.takeInput; split <;> rfl
@[simp] theorem State.takeInput_cl : (s.takeInput).cl = s.cl := by unfold State.takeInput; split <;> rfl
@[simp] theorem State.takeInput_idleThreshold : (s.takeInput).idleThreshold = s.idleThreshold := by unfold State.takeInput; split <;> rfl
@[simp] theorem State.takeInput_tsMode : (s.takeInput).tsMode = s.tsMode := by unfold State.takeInput; split <;> rfl
@[simp] theorem State.takeInput_crMode : (s.takeInput).crMode = s.crMode := by unfold State.takeInput; split <;> rfl
@[simp] theorem State.takeInput_acqActive : (s.takeInput).acqActive = s.acqActive := by unfold State.takeInput; split <;> rfl
@[simp] theorem State.takeInput_abortPending : (s.takeInput).abortPending = s.abortPending := by unfold State.takeInput; split <;> rfl
@[simp] theorem State.takeInput_lastErr : (s.takeInput).lastErr = s.lastErr := by unfold State.takeInput; split <;> rfl
@[simp] theorem State.takeInput_resultOut : (s.takeInput).resultOut = s.resultOut := by unfold State.takeInput; split <;> rfl
@[simp] theorem State.takeInput_sampleOut : (s.takeInput).sampleOut = s.sampleOut := by unfold State.takeInput; split <;> rfl
@[simp] theorem State.takeInput_errorOut : (s.takeInput).errorOut = s.errorOut := by unfold State.takeInput; split <;> rfl
@[simp] theorem State.takeInput_txOut : (s.takeInput).txOut = s.txOut := by unfold State.takeInput; split <;> rfl
@[simp] theorem State.takeInput_waiting : (s.takeInput).waiting = s.waiting := by unfold State.takeInput; split <;> rfl
@[simp] theorem State.takeInput_txAnswer : (s.takeInput).txAnswer = s.txAnswer := by unfold State.takeInput; split <;> rfl

@[simp] theorem State.resetBlock_cfg : (s.resetBlock).cfg = s.cfg := rfl
@[simp] theorem State.resetBlock_phase : (s.resetBlock).phase = State.reset.phase := rfl
@[simp] theorem State.resetBlock_cycleKind : (s.resetBlock).cycleKind = State.reset.cycleKind := rfl
@[simp] theorem State.resetBlock_expect : (s.resetBlock).expect = State.reset.expect := rfl
@[simp] theorem State.resetBlock_shape : (s.resetBlock).shape = State.reset.shape := rfl
@[simp] theorem State.resetBlock_rxbuf : (s.resetBlock).rxbuf = State.reset.rxbuf := rfl
@[simp] theorem State.resetBlock_idleCnt : (s.resetBlock).idleCnt = State.reset.idleCnt := rfl
@[simp] theorem State.resetBlock_overflow : (s.resetBlock).overflow = State.reset.overflow := rfl
@[simp] theorem State.resetBlock_cl : (s.resetBlock).cl = State.reset.cl := rfl
@[simp] theorem State.resetBlock_idleThreshold : (s.resetBlock).idleThreshold = State.reset.idleThreshold := rfl
@[simp] theorem State.resetBlock_tsMode : (s.resetBlock).tsMode = State.reset.tsMode := rfl
@[simp] theorem State.resetBlock_crMode : (s.resetBlock).crMode = State.reset.crMode := rfl
@[simp] theorem State.resetBlock_acqActive : (s.resetBlock).acqActive = State.reset.acqActive := rfl
@[simp] theorem State.resetBlock_abortPending : (s.resetBlock).abortPending = State.reset.abortPending := rfl
@[simp] theorem State.resetBlock_lastErr : (s.resetBlock).lastErr = State.reset.lastErr := rfl
@[simp] theorem State.resetBlock_resultOut : (s.resetBlock).resultOut = State.reset.resultOut := rfl
@[simp] theorem State.resetBlock_sampleOut : (s.resetBlock).sampleOut = State.reset.sampleOut := rfl
@[simp] theorem State.resetBlock_errorOut : (s.resetBlock).errorOut = State.reset.errorOut := rfl
@[simp] theorem State.resetBlock_txOut : (s.resetBlock).txOut = State.reset.txOut := rfl
@[simp] theorem State.resetBlock_waiting : (s.resetBlock).waiting = s.waiting := rfl
@[simp] theorem State.resetBlock_txAnswer : (s.resetBlock).txAnswer = s.txAnswer := rfl
@[simp] theorem State.resetBlock_script : (s.resetBlock).script = s.script := rfl
@[simp] theorem State.resetBlock_envIdx : (s.resetBlock).envIdx = s.envIdx := rfl

end Sys2Proof.Machine
end

