-- ==== Sys2Proof/Laws/Ops.lean ====
section
/-! SUPPORT. For each shared operation of the machine, what it can do, said once: the fields it leaves alone, and the cases of
its result. -/

namespace Sys2Proof.Machine

variable (s : State)

/-! ## What a cycle leaves alone -/

@[simp] theorem State.completeCycle_cfg : (s.completeCycle).cfg = s.cfg := by simp [State.completeCycle]
@[simp] theorem State.completeCycle_cycleKind : (s.completeCycle).cycleKind = s.cycleKind := by simp [State.completeCycle]
@[simp] theorem State.completeCycle_expect : (s.completeCycle).expect = s.expect := by simp [State.completeCycle]
@[simp] theorem State.completeCycle_shape : (s.completeCycle).shape = s.shape := by simp [State.completeCycle]
@[simp] theorem State.completeCycle_idleThreshold : (s.completeCycle).idleThreshold = s.idleThreshold := by simp [State.completeCycle]
@[simp] theorem State.completeCycle_tsMode : (s.completeCycle).tsMode = s.tsMode := by simp [State.completeCycle]
@[simp] theorem State.completeCycle_crMode : (s.completeCycle).crMode = s.crMode := by simp [State.completeCycle]
@[simp] theorem State.completeCycle_rxbuf : (s.completeCycle).rxbuf = s.rxbuf := by simp [State.completeCycle]
@[simp] theorem State.completeCycle_idleCnt : (s.completeCycle).idleCnt = s.idleCnt := by simp [State.completeCycle]
@[simp] theorem State.completeCycle_overflow : (s.completeCycle).overflow = s.overflow := by simp [State.completeCycle]
@[simp] theorem State.completeCycle_waiting : (s.completeCycle).waiting = s.waiting := by simp [State.completeCycle]
@[simp] theorem State.completeCycle_txOut : (s.completeCycle).txOut = s.txOut := by simp [State.completeCycle]
@[simp] theorem State.completeCycle_txAnswer : (s.completeCycle).txAnswer = s.txAnswer := by simp [State.completeCycle]
@[simp] theorem State.completeCycle_script : (s.completeCycle).script = s.script := by simp [State.completeCycle]
@[simp] theorem State.completeCycle_envIdx : (s.completeCycle).envIdx = s.envIdx := by simp [State.completeCycle]
@[simp] theorem State.completeCycle_phase : (s.completeCycle).phase = .ready := by simp [State.completeCycle]
@[simp] theorem State.completeCycle_cl : (s.completeCycle).cl = s.classified.cl := by simp [State.completeCycle]
@[simp] theorem State.completeCycle_sampleOut : (s.completeCycle).sampleOut = s.sampleOut ++ s.classified.samples := by simp [State.completeCycle]
@[simp] theorem State.completeCycle_resultOut : (s.completeCycle).resultOut = s.resultOut ++ [s.classified.report] := by simp [State.completeCycle]

@[simp] theorem State.readEmpty_cfg : (s.readEmpty).cfg = s.cfg := by unfold State.readEmpty; split <;> simp
@[simp] theorem State.readEmpty_cycleKind : (s.readEmpty).cycleKind = s.cycleKind := by unfold State.readEmpty; split <;> simp
@[simp] theorem State.readEmpty_expect : (s.readEmpty).expect = s.expect := by unfold State.readEmpty; split <;> simp
@[simp] theorem State.readEmpty_shape : (s.readEmpty).shape = s.shape := by unfold State.readEmpty; split <;> simp
@[simp] theorem State.readEmpty_idleThreshold : (s.readEmpty).idleThreshold = s.idleThreshold := by unfold State.readEmpty; split <;> simp
@[simp] theorem State.readEmpty_tsMode : (s.readEmpty).tsMode = s.tsMode := by unfold State.readEmpty; split <;> simp
@[simp] theorem State.readEmpty_crMode : (s.readEmpty).crMode = s.crMode := by unfold State.readEmpty; split <;> simp
@[simp] theorem State.readEmpty_rxbuf : (s.readEmpty).rxbuf = s.rxbuf := by unfold State.readEmpty; split <;> simp
@[simp] theorem State.readEmpty_overflow : (s.readEmpty).overflow = s.overflow := by unfold State.readEmpty; split <;> simp
@[simp] theorem State.readEmpty_waiting : (s.readEmpty).waiting = s.waiting := by unfold State.readEmpty; split <;> simp
@[simp] theorem State.readEmpty_txOut : (s.readEmpty).txOut = s.txOut := by unfold State.readEmpty; split <;> simp
@[simp] theorem State.readEmpty_txAnswer : (s.readEmpty).txAnswer = s.txAnswer := by unfold State.readEmpty; split <;> simp
@[simp] theorem State.readEmpty_script : (s.readEmpty).script = s.script := by unfold State.readEmpty; split <;> simp
@[simp] theorem State.readEmpty_envIdx : (s.readEmpty).envIdx = s.envIdx := by unfold State.readEmpty; split <;> simp
@[simp] theorem State.readEmpty_idleCnt : (s.readEmpty).idleCnt = s.idleCnt + 1 := by unfold State.readEmpty; split <;> simp

@[simp] theorem State.readFail_cfg : (s.readFail).cfg = s.cfg := by unfold State.readFail; simp only; split <;> simp
@[simp] theorem State.readFail_cycleKind : (s.readFail).cycleKind = s.cycleKind := by unfold State.readFail; simp only; split <;> simp
@[simp] theorem State.readFail_expect : (s.readFail).expect = s.expect := by unfold State.readFail; simp only; split <;> simp
@[simp] theorem State.readFail_shape : (s.readFail).shape = s.shape := by unfold State.readFail; simp only; split <;> simp
@[simp] theorem State.readFail_idleThreshold : (s.readFail).idleThreshold = s.idleThreshold := by unfold State.readFail; simp only; split <;> simp
@[simp] theorem State.readFail_tsMode : (s.readFail).tsMode = s.tsMode := by unfold State.readFail; simp only; split <;> simp
@[simp] theorem State.readFail_crMode : (s.readFail).crMode = s.crMode := by unfold State.readFail; simp only; split <;> simp
@[simp] theorem State.readFail_idleCnt : (s.readFail).idleCnt = s.idleCnt := by unfold State.readFail; simp only; split <;> simp
@[simp] theorem State.readFail_overflow : (s.readFail).overflow = s.overflow := by unfold State.readFail; simp only; split <;> simp
@[simp] theorem State.readFail_waiting : (s.readFail).waiting = s.waiting := by unfold State.readFail; simp only; split <;> simp
@[simp] theorem State.readFail_cl : (s.readFail).cl = s.cl := by unfold State.readFail; simp only; split <;> simp
@[simp] theorem State.readFail_sampleOut : (s.readFail).sampleOut = s.sampleOut := by unfold State.readFail; simp only; split <;> simp
@[simp] theorem State.readFail_txOut : (s.readFail).txOut = s.txOut := by unfold State.readFail; simp only; split <;> simp
@[simp] theorem State.readFail_txAnswer : (s.readFail).txAnswer = s.txAnswer := by unfold State.readFail; simp only; split <;> simp
@[simp] theorem State.readFail_script : (s.readFail).script = s.script := by unfold State.readFail; simp only; split <;> simp
@[simp] theorem State.readFail_envIdx : (s.readFail).envIdx = s.envIdx := by unfold State.readFail; simp only; split <;> simp
@[simp] theorem State.readFail_phase : (s.readFail).phase = .ready := by unfold State.readFail; simp only; split <;> simp
@[simp] theorem State.readFail_rxbuf : (s.readFail).rxbuf = [] := by unfold State.readFail; simp only; split <;> simp
@[simp] theorem State.readFail_resultOut : (s.readFail).resultOut = s.resultOut ++ [.fail .transportError .read []] := by unfold State.readFail; simp only; split <;> simp

@[simp] theorem State.readStep_cfg (a : ReadAnswer) : (s.readStep a).cfg = s.cfg := by unfold State.readStep; split <;> simp
@[simp] theorem State.readStep_cycleKind (a : ReadAnswer) : (s.readStep a).cycleKind = s.cycleKind := by unfold State.readStep; split <;> simp
@[simp] theorem State.readStep_expect (a : ReadAnswer) : (s.readStep a).expect = s.expect := by unfold State.readStep; split <;> simp
@[simp] theorem State.readStep_shape (a : ReadAnswer) : (s.readStep a).shape = s.shape := by unfold State.readStep; split <;> simp
@[simp] theorem State.readStep_idleThreshold (a : ReadAnswer) : (s.readStep a).idleThreshold = s.idleThreshold := by unfold State.readStep; split <;> simp
@[simp] theorem State.readStep_tsMode (a : ReadAnswer) : (s.readStep a).tsMode = s.tsMode := by unfold State.readStep; split <;> simp
@[simp] theorem State.readStep_crMode (a : ReadAnswer) : (s.readStep a).crMode = s.crMode := by unfold State.readStep; split <;> simp
@[simp] theorem State.readStep_txOut (a : ReadAnswer) : (s.readStep a).txOut = s.txOut := by unfold State.readStep; split <;> simp
@[simp] theorem State.readStep_txAnswer (a : ReadAnswer) : (s.readStep a).txAnswer = s.txAnswer := by unfold State.readStep; split <;> simp
@[simp] theorem State.readStep_script (a : ReadAnswer) : (s.readStep a).script = s.script := by unfold State.readStep; split <;> simp
@[simp] theorem State.readStep_envIdx (a : ReadAnswer) : (s.readStep a).envIdx = s.envIdx := by unfold State.readStep; split <;> simp

@[simp] theorem State.idleReads_zero : State.idleReads 0 s = s := rfl

@[simp] theorem State.idleReads_cfg (n : Nat) (s : State) : (State.idleReads n s).cfg = s.cfg := by
  induction n generalizing s with
  | zero => rfl
  | succ n ih => unfold State.idleReads; split <;> simp [ih]
@[simp] theorem State.idleReads_cycleKind (n : Nat) (s : State) : (State.idleReads n s).cycleKind = s.cycleKind := by
  induction n generalizing s with
  | zero => rfl
  | succ n ih => unfold State.idleReads; split <;> simp [ih]
@[simp] theorem State.idleReads_expect (n : Nat) (s : State) : (State.idleReads n s).expect = s.expect := by
  induction n generalizing s with
  | zero => rfl
  | succ n ih => unfold State.idleReads; split <;> simp [ih]
@[simp] theorem State.idleReads_shape (n : Nat) (s : State) : (State.idleReads n s).shape = s.shape := by
  induction n generalizing s with
  | zero => rfl
  | succ n ih => unfold State.idleReads; split <;> simp [ih]
@[simp] theorem State.idleReads_idleThreshold (n : Nat) (s : State) : (State.idleReads n s).idleThreshold = s.idleThreshold := by
  induction n generalizing s with
  | zero => rfl
  | succ n ih => unfold State.idleReads; split <;> simp [ih]
@[simp] theorem State.idleReads_tsMode (n : Nat) (s : State) : (State.idleReads n s).tsMode = s.tsMode := by
  induction n generalizing s with
  | zero => rfl
  | succ n ih => unfold State.idleReads; split <;> simp [ih]
@[simp] theorem State.idleReads_crMode (n : Nat) (s : State) : (State.idleReads n s).crMode = s.crMode := by
  induction n generalizing s with
  | zero => rfl
  | succ n ih => unfold State.idleReads; split <;> simp [ih]
@[simp] theorem State.idleReads_txOut (n : Nat) (s : State) : (State.idleReads n s).txOut = s.txOut := by
  induction n generalizing s with
  | zero => rfl
  | succ n ih => unfold State.idleReads; split <;> simp [ih]
@[simp] theorem State.idleReads_txAnswer (n : Nat) (s : State) : (State.idleReads n s).txAnswer = s.txAnswer := by
  induction n generalizing s with
  | zero => rfl
  | succ n ih => unfold State.idleReads; split <;> simp [ih]
@[simp] theorem State.idleReads_script (n : Nat) (s : State) : (State.idleReads n s).script = s.script := by
  induction n generalizing s with
  | zero => rfl
  | succ n ih => unfold State.idleReads; split <;> simp [ih]
@[simp] theorem State.idleReads_envIdx (n : Nat) (s : State) : (State.idleReads n s).envIdx = s.envIdx := by
  induction n generalizing s with
  | zero => rfl
  | succ n ih => unfold State.idleReads; split <;> simp [ih]

@[simp] theorem State.burst_cfg (bs : Bytes) : (s.burst bs).cfg = s.cfg := by unfold State.burst; split <;> simp
@[simp] theorem State.burst_cycleKind (bs : Bytes) : (s.burst bs).cycleKind = s.cycleKind := by unfold State.burst; split <;> simp
@[simp] theorem State.burst_expect (bs : Bytes) : (s.burst bs).expect = s.expect := by unfold State.burst; split <;> simp
@[simp] theorem State.burst_shape (bs : Bytes) : (s.burst bs).shape = s.shape := by unfold State.burst; split <;> simp
@[simp] theorem State.burst_idleThreshold (bs : Bytes) : (s.burst bs).idleThreshold = s.idleThreshold := by unfold State.burst; split <;> simp
@[simp] theorem State.burst_tsMode (bs : Bytes) : (s.burst bs).tsMode = s.tsMode := by unfold State.burst; split <;> simp
@[simp] theorem State.burst_crMode (bs : Bytes) : (s.burst bs).crMode = s.crMode := by unfold State.burst; split <;> simp
@[simp] theorem State.burst_txOut (bs : Bytes) : (s.burst bs).txOut = s.txOut := by unfold State.burst; split <;> simp
@[simp] theorem State.burst_txAnswer (bs : Bytes) : (s.burst bs).txAnswer = s.txAnswer := by unfold State.burst; split <;> simp
@[simp] theorem State.burst_script (bs : Bytes) : (s.burst bs).script = s.script := by unfold State.burst; split <;> simp
@[simp] theorem State.burst_envIdx (bs : Bytes) : (s.burst bs).envIdx = s.envIdx := by unfold State.burst; split <;> simp

/-! ## The cases of an operation -/

/-- `deliver` of an error (R225). -/
theorem State.deliver_fail (k : ErrorKind) (i : ErrInfo) (m : List SysMsg) :
    s.deliver (.fail k i m) = (s.emit (.fail k i m)).recordError { kind := k, info := i } := rfl

/-- The refusal tests pass exactly when each of the four does (R191). -/
theorem State.refusal_eq_none (op : OpClass) :
    s.refusal op = none ↔ s.phase = .ready ∧ (s.abortPending = true → op.transmits = false)
      ∧ (s.acqActive = true → op.blockedByAcq = false) ∧ op.badOperand = none := by
  unfold State.refusal
  cases s.phase <;> cases s.abortPending <;> cases op.transmits <;> cases s.acqActive <;> cases op.blockedByAcq <;> simp

theorem State.refusal_collect {s : State} (h : s.phase = .collect) (op : OpClass) : s.refusal op = some .busy := by
  simp [State.refusal, h]

/-- A guarded operation is declined for the reason the tests give, or performed. -/
theorem State.guarded_cases (op : OpClass) (f : State → State) :
    (∃ r, s.refusal op = some r ∧ s.guarded op f = s.decline r) ∨ (s.refusal op = none ∧ s.guarded op f = f s) := by
  unfold State.guarded
  cases h : s.refusal op <;> simp

theorem State.guarded_of_none {s : State} {op : OpClass} (h : s.refusal op = none) (f : State → State) :
    s.guarded op f = f s := by
  simp [State.guarded, h]

theorem State.guarded_of_some {s : State} {op : OpClass} {r : RefuseReason} (h : s.refusal op = some r)
    (f : State → State) : s.guarded op f = s.decline r := by
  simp [State.guarded, h]

/-- Sending a built frame: declined, failed before or at the write, or written and its cycle started (R192). -/
theorem State.sendFrame_cases (frame : Except EncStop Bytes) (stops : Bool) (kind : CycleKind) (opcode : Byte)
    (shape : ReplyShape) :
    (∃ r, s.sendFrame frame stops kind opcode shape = s.decline r) ∨
    (∃ k i, s.sendFrame frame stops kind opcode shape = s.deliver (.fail k i [])) ∨
    (∃ f, frame = .ok f ∧ s.txAnswer = .ok ∧
      s.sendFrame frame stops kind opcode shape =
        ({ s with txOut := s.txOut ++ [f], acqActive := s.acqActive && !stops } : State).startCycle kind (some opcode)
          shape) := by
  unfold State.sendFrame State.txWrite
  cases frame with
  | error e => cases e with
    | refuse r => exact .inl ⟨r, rfl⟩
    | raise e => exact .inr (.inl ⟨e.kind, e.info, rfl⟩)
  | ok f =>
    cases h : s.txAnswer with
    | fail => exact .inr (.inl ⟨.transportError, .write, rfl⟩)
    | ok =>
      refine .inr (.inr ⟨f, rfl, rfl, ?_⟩)
      cases stops <;> simp [State.setAcqActive]

/-- A frame that was built and that the transport takes is written, and its cycle starts (R192). -/
theorem State.sendFrame_ok {s : State} (h : s.txAnswer = .ok) (f : Bytes) (stops : Bool) (kind : CycleKind)
    (opcode : Byte) (shape : ReplyShape) :
    s.sendFrame (.ok f) stops kind opcode shape =
      { s with txOut := s.txOut ++ [f], acqActive := s.acqActive && !stops, cycleKind := kind, expect := some opcode,
               shape := shape, rxbuf := [], idleCnt := 0, overflow := false, phase := .collect } := by
  unfold State.sendFrame State.txWrite
  cases stops <;> simp [h, State.setAcqActive, State.startCycle]

/-- An empty read either leaves the cycle running with its count raised, or completes it (R119). -/
theorem State.readEmpty_cases :
    (s.idleCnt + 1 < s.idleThreshold ∧ s.readEmpty = s.countIdle) ∨
    (s.idleThreshold ≤ s.idleCnt + 1 ∧ s.readEmpty = s.countIdle.completeCycle) := by
  unfold State.readEmpty State.idleReached
  by_cases h : s.idleThreshold ≤ s.idleCnt + 1
  · exact .inr ⟨h, by simp [h]⟩
  · exact .inl ⟨by omega, by simp [h]⟩

/-- A reader step takes bytes, counts an empty read, or fails (R118, R119, R121). -/
theorem State.readStep_cases (a : ReadAnswer) :
    (∃ bs, bs ≠ [] ∧ s.readStep a = s.drainTransport.readData bs) ∨
    (s.waiting = [] ∧ s.readStep a = s.readEmpty) ∨ (a = .fail ∧ s.readStep a = s.readFail) := by
  unfold State.readStep transportRead
  cases a with
  | fail => exact .inr (.inr ⟨rfl, rfl⟩)
  | empty =>
    by_cases h : s.waiting = []
    · exact .inr (.inl ⟨h, by simp [h]⟩)
    · exact .inl ⟨s.waiting, h, by simp [h]⟩
  | data bs =>
    by_cases h : s.waiting ++ bs = []
    · exact .inr (.inl ⟨by simp_all, by simp [h]⟩)
    · exact .inl ⟨s.waiting ++ bs, h, by simp [h]⟩

theorem State.readStep_data {s : State} {bs : Bytes} (h : s.waiting ++ bs ≠ []) :
    s.readStep (.data bs) = s.drainTransport.readData (s.waiting ++ bs) := by
  simp only [State.readStep, transportRead, if_neg h]

theorem State.readStep_empty {s : State} (h : s.waiting = []) : s.readStep .empty = s.readEmpty := by
  simp [State.readStep, transportRead, h]

/-- Empty reads one after another complete the cycle when the count reaches the threshold (R119). -/
theorem State.idleReads_complete (n : Nat) (s : State) (hp : s.phase = .collect) (hw : s.waiting = [])
    (hn : s.idleCnt + n = s.idleThreshold) (h1 : 1 ≤ n) :
    State.idleReads n s = ({ s with idleCnt := s.idleThreshold } : State).completeCycle := by
  induction n generalizing s with
  | zero => omega
  | succ n ih =>
    rw [State.idleReads, if_pos hp, State.readStep_empty hw]
    rcases s.readEmpty_cases with ⟨h, e⟩ | ⟨h, e⟩
    · rw [e, ih s.countIdle (by simp [hp]) (by simp [hw]) (by simp; omega) (by omega)]
      rfl
    · have hn0 : n = 0 := by omega
      subst hn0
      rw [e, State.idleReads_zero]
      have : s.idleCnt + 1 = s.idleThreshold := by omega
      simp only [State.countIdle, this]

/-- A burst in a running cycle is one append and the completion of the cycle (R118 to R120). -/
theorem State.burst_collect {s : State} {bs : Bytes} (hp : s.phase = .collect) (hb : s.waiting ++ bs ≠ [])
    (ht : 1 ≤ s.idleThreshold) :
    s.burst bs =
      ({ s.drainTransport.append (s.waiting ++ bs) with idleCnt := s.idleThreshold } : State).completeCycle := by
  unfold State.burst
  rw [hp]
  simp only
  rw [State.readStep_data hb, State.idleReads_complete]
  · simp [State.readData]
  · simp [hp]
  · simp
  · simp
  · exact ht

/-- In `Ready` the bytes of the device wait in the transport (R219). -/
theorem State.burst_ready {s : State} (hp : s.phase = .ready) (bs : Bytes) : s.burst bs = s.hold bs := by
  simp [State.burst, hp]

/-- An append that fits is the concatenation (R118). -/
theorem State.append_fits {s : State} {bs : Bytes} (h : bs.length ≤ s.cfg.rxbufMax - s.rxbuf.length) :
    s.append bs = { s with rxbuf := s.rxbuf ++ bs } := by
  simp [State.append, h]

/-- Every memory operation keeps the buffer within its capacity (R204 (f)): the append is the only one that lengthens it. -/
theorem State.append_memWf {s : State} (h : s.memWf = true) (bs : Bytes) : (s.append bs).memWf = true := by
  simp only [State.memWf, decide_eq_true_eq] at h ⊢
  unfold State.append
  split
  · simp; omega
  · simp; omega

/-- Seen from the buffer's capacity: the bytes appended are cut there, and `OVERFLOW` says whether any were lost. -/
theorem State.append_take {s : State} (h : s.memWf = true) (bs : Bytes) :
    (s.append bs).rxbuf = (s.rxbuf ++ bs).take s.cfg.rxbufMax ∧
      (s.append bs).overflow = (s.overflow || decide (s.cfg.rxbufMax < s.rxbuf.length + bs.length)) := by
  have h : s.rxbuf.length ≤ s.cfg.rxbufMax := of_decide_eq_true h
  unfold State.append
  split
  · have hn : ¬ s.cfg.rxbufMax < s.rxbuf.length + bs.length := by omega
    refine ⟨?_, by simp [hn]⟩
    rw [List.take_of_length_le]
    simp
    omega
  · have hn : s.cfg.rxbufMax < s.rxbuf.length + bs.length := by omega
    exact ⟨by rw [List.take_append, List.take_of_length_le h], by simp [hn]⟩

/-- The two operations that empty the buffer. -/
theorem State.startCycle_memWf (s : State) (kind : CycleKind) (expect : Option Byte) (shape : ReplyShape) :
    (s.startCycle kind expect shape).memWf = true := by
  simp [State.memWf, State.startCycle]

theorem State.readFail_memWf (s : State) : s.readFail.memWf = true := by
  simp [State.memWf]

theorem State.reset_memWf : State.reset.memWf = true := by decide

/-- A burst into a fresh cycle that fits the buffer: the outcome is what `classify` says of the burst. -/
theorem State.burst_fresh {s : State} {bs : Bytes} (h : s.FreshCycle) (hb : bs ≠ []) (hl : bs.length ≤ s.cfg.rxbufMax) :
    s.burst bs = ({ s with rxbuf := bs, idleCnt := s.idleThreshold } : State).completeCycle := by
  obtain ⟨hp, hr, ho, hw, ht⟩ := h
  rw [State.burst_collect hp (by simp [hb]) ht]
  have hf : (s.waiting ++ bs).length ≤ s.drainTransport.cfg.rxbufMax - s.drainTransport.rxbuf.length := by
    simp [hw, hr, hl]
  rw [State.append_fits hf]
  simp [State.drainTransport, hw, hr]

/-! ## The cases of a step -/

/-- What one step is, by the input it takes (R190). -/
theorem step_cases {s t : State} (h : step s = .next t) :
    (∃ i s1, s.takeInput.fetch s.nextInput = .run i s1 ∧ exec i s1 = .next t) ∨
    s.takeInput.fetch s.nextInput = .moved t := by
  unfold step at h
  split at h
  · exact .inl ⟨_, _, ‹_›, h⟩
  · simp only [Host.Outcome.next.injEq] at h
    subst h; exact .inr ‹_›
  · cases h

/-- The state an instruction runs on is the one the input was taken from, but for the answer to a write. -/
theorem State.fetch_run {s s1 : State} {inp : Input} {i : Instr} (h : s.fetch inp = .run i s1) :
    ∃ a, s1 = s.withTxAnswer a := by
  unfold State.fetch at h
  split at h <;> (try split at h) <;> simp only [Fetched.run.injEq, reduceCtorEq] at h
  · exact ⟨_, h.2.symm⟩
  · exact ⟨_, h.2.symm⟩
  · exact ⟨s.txAnswer, h.2.symm⟩

/-- What a move of the block that no row names can be (R190, R250). -/
theorem State.fetch_moved {s t : State} {inp : Input} (h : s.fetch inp = .moved t) :
    t = s.runQuiet ∨ (∃ o, t = s.runLocal o) ∨ (∃ bs, t = s.burst bs) ∨ (∃ a, t = s.runRead a) ∨
      (inp = .reset ∧ t = s.resetBlock) := by
  unfold State.fetch at h
  split at h <;> (try split at h) <;> simp only [Fetched.moved.injEq, reduceCtorEq] at h <;> subst h
  · exact .inl rfl
  · exact .inr (.inl ⟨_, rfl⟩)
  · exact .inr (.inr (.inl ⟨_, rfl⟩))
  · exact .inr (.inr (.inr (.inl ⟨_, rfl⟩)))
  · exact .inr (.inr (.inr (.inr ⟨rfl, rfl⟩)))

/-- Every meaning is a guarded command, a raw frame, or a burst of the device. -/
theorem exec_cases (i : Instr) (s : State) :
    (∃ cmd frame, exec i s = .next (s.sendCommand cmd frame)) ∨
    (∃ opcode payload shape, exec i s = .next (sendRaw opcode payload shape s)) ∨
    (∃ bs, exec i s = .next (s.burst bs)) := by
  cases i with
  | frame dir opcode payload =>
    cases dir with
    | send shape => exact .inr (.inl ⟨opcode, payload, shape, rfl⟩)
    | receive => exact .inr (.inr ⟨_, rfl⟩)
  | initSetup | addFreqList | startMeas | stopMeas | getNumFreq | getFreqPoint | getFreqList | getDeviceId =>
    exact .inl ⟨_, _, rfl⟩
  | _ => exact .inr (.inr ⟨_, rfl⟩)

end Sys2Proof.Machine
end

