-- ==== Sys2Proof/Laws/Replies.lean ====
section
/-! SUPPORT. Laws of the reply decoders: the slices of a payload, and what a sample's five fields decode to
(spec/45_measurement.md R180). -/

namespace Sys2Proof.Machine

theorem slice_mid {pre mid : Bytes} {lo hi : Nat} (post : Bytes) (h1 : pre.length = lo) (h2 : lo + mid.length = hi) :
    slice (pre ++ (mid ++ post)) lo hi = mid := by
  subst h1 h2
  simp [slice, List.take_append]

theorem slice_last {pre mid : Bytes} {lo hi : Nat} (h1 : pre.length = lo) (h2 : lo + mid.length = hi) :
    slice (pre ++ mid) lo hi = mid := by
  simpa using slice_mid [] h1 h2

theorem slice_first {mid : Bytes} {hi : Nat} (post : Bytes) (h : mid.length = hi) : slice (mid ++ post) 0 hi = mid := by
  simpa using slice_mid (pre := []) (lo := 0) post rfl (by omega)

/-- `DECODE_SAMPLE` of a payload cut into its fields (R180). -/
theorem decodeSample_fields {ts : TsMode} {cr : CrMode} (ht : ts ≠ .unset) (hc : cr ≠ .unset) {a t g x y : Bytes}
    (ha : a.length = 2) (htl : t.length = tsWidth ts) (hg : g.length = crWidth cr) (hx : x.length = 4)
    (hy : y.length = 4) :
    decodeSample (a ++ (t ++ (g ++ (x ++ y)))) ts cr =
      .ok { pointId := BitVec.ofNat 16 (beNat a)
            timestamp := if ts = .off then none else some (BitVec.ofNat 40 (beNat t))
            currentRange := g.head?
            re := BitVec.ofNat 32 (beNat x)
            im := BitVec.ofNat 32 (beNat y) } := by
  have hl : ¬ (a ++ (t ++ (g ++ (x ++ y)))).length ≠ 2 + tsWidth ts + crWidth cr + 8 := by
    simp only [List.length_append]; omega
  have s1 : slice (a ++ (t ++ (g ++ (x ++ y)))) 0 2 = a := slice_first _ ha
  have s2 : ∀ h, 2 + t.length = h → slice (a ++ (t ++ (g ++ (x ++ y)))) 2 h = t := fun h hh => slice_mid _ ha hh
  have s4 : slice (a ++ (t ++ (g ++ (x ++ y)))) (2 + tsWidth ts + crWidth cr) (2 + tsWidth ts + crWidth cr + 4) = x := by
    have := slice_mid (pre := a ++ (t ++ g)) (mid := x) y (lo := 2 + tsWidth ts + crWidth cr)
      (hi := 2 + tsWidth ts + crWidth cr + 4) (by simp only [List.length_append]; omega) (by omega)
    simpa using this
  have s5 : slice (a ++ (t ++ (g ++ (x ++ y)))) (2 + tsWidth ts + crWidth cr + 4) (2 + tsWidth ts + crWidth cr + 8) = y := by
    have := slice_last (pre := a ++ (t ++ (g ++ x))) (mid := y) (lo := 2 + tsWidth ts + crWidth cr + 4)
      (hi := 2 + tsWidth ts + crWidth cr + 8) (by simp only [List.length_append]; omega) (by omega)
    simpa using this
  have d1 : decUint a = .ok (beNat a) := by simp [decUint, ha]
  have f4 : ∀ z : Bytes, z.length = 4 → decF32 z = .ok (BitVec.ofNat 32 (beNat z)) := by
    intro z hz
    simp [decF32, hz, List.take_of_length_le]
  have g1 : (if crWidth cr = 0 then none else some ((a ++ (t ++ (g ++ (x ++ y)))).getD (2 + tsWidth ts) 0)) = g.head? := by
    cases cr with
    | unset => exact absurd rfl hc
    | absent =>
      have : g = [] := List.length_eq_zero_iff.mp hg
      simp [crWidth, this]
    | present =>
      match g, hg with
      | [b], _ =>
        have e : a ++ (t ++ ([b] ++ (x ++ y))) = (a ++ t) ++ ([b] ++ (x ++ y)) := by simp
        have hn : (a ++ t).length = 2 + tsWidth ts := by simp only [List.length_append]; omega
        rw [e, ← hn]
        simp [crWidth]
  have hn : ¬ (ts = .unset ∨ cr = .unset) := by simp [ht, hc]
  unfold decodeSample
  rw [if_neg hn]
  simp only [if_neg hl, s1, s4, s5, d1, f4 x hx, f4 y hy, g1, bind, Except.bind, pure, Except.pure]
  cases ts with
  | unset => exact absurd rfl ht
  | off => rfl
  | ms4 =>
    have htl' : t.length = 4 := htl
    simp [s2 6 (by omega), decUint, htl', Except.map]
  | us5 =>
    have htl' : t.length = 5 := htl
    simp [s2 7 (by omega), decU40, htl', Except.map]

/-- `DECODE_SAMPLES` of frames that are all samples (R198). -/
theorem decodeSamples_ok {ts : TsMode} {cr : CrMode} : ∀ {ps : List Bytes} {ss : List Sample},
    (ps.map fun p => decodeSample p ts cr) = ss.map .ok → decodeSamples ts cr ps = (ss, none)
  | [], [], _ => rfl
  | [], _ :: _, h => by simp at h
  | _ :: _, [], h => by simp at h
  | p :: ps, s :: ss, h => by
    simp only [List.map_cons, List.cons.injEq] at h
    simp [decodeSamples, h.1, decodeSamples_ok h.2]

/-- `DECODE_SAMPLES` up to the first frame that is no sample (R198, D38). -/
theorem decodeSamples_error {ts : TsMode} {cr : CrMode} {p : Bytes} {err : Raised} (after : List Bytes)
    (he : decodeSample p ts cr = .error err) : ∀ {ps : List Bytes} {ss : List Sample},
    (ps.map fun p => decodeSample p ts cr) = ss.map .ok → decodeSamples ts cr (ps ++ p :: after) = (ss, some err)
  | [], [], _ => by simp [decodeSamples, he]
  | [], _ :: _, h => by simp at h
  | _ :: _, [], h => by simp at h
  | q :: ps, s :: ss, h => by
    simp only [List.map_cons, List.cons.injEq] at h
    simp [decodeSamples, h.1, decodeSamples_error after he h.2]

/-- The two errors `DECODE_SAMPLE` has (R180). -/
theorem decodeSample_error {p : Bytes} {ts : TsMode} {cr : CrMode} {e : Raised} (h : decodeSample p ts cr = .error e) :
    e = ⟨.malformedFrame, .formatUnset⟩ ∨ e = ⟨.malformedFrame, .sampleLength⟩ := by
  by_cases h1 : ts = .unset ∨ cr = .unset
  · simp only [decodeSample, if_pos h1, Except.error.injEq] at h
    exact .inl h.symm
  · by_cases h2 : p.length ≠ 2 + tsWidth ts + crWidth cr + 8
    · simp only [decodeSample, if_neg h1, if_pos h2, Except.error.injEq] at h
      exact .inr h.symm
    · exfalso
      simp only [not_or] at h1
      have e : p = p.take 2 ++ ((p.drop 2).take (tsWidth ts) ++ (((p.drop 2).drop (tsWidth ts)).take (crWidth cr) ++
          ((((p.drop 2).drop (tsWidth ts)).drop (crWidth cr)).take 4 ++
            (((p.drop 2).drop (tsWidth ts)).drop (crWidth cr)).drop 4))) := by
        simp only [List.take_append_drop]
      rw [e, decodeSample_fields h1.1 h1.2 (by simp; omega) (by simp; omega) (by simp; omega) (by simp; omega)
        (by simp; omega)] at h
      cases h

/-- The one error of the identity (R169). -/
theorem decodeDeviceId_error {l : DevIdLayout} {p : Bytes} {e : Raised} (h : decodeDeviceId l p = .error e) :
    e = fieldShort := by
  have byteErr : ∀ {bs i x}, byteAt bs i = .error x → x = fieldShort := by
    intro bs i x h
    unfold byteAt at h
    split at h <;> cases h
    rfl
  have uintErr : ∀ {bs x}, decUint bs = .error x → x = fieldShort := by
    intro bs x h
    unfold decUint at h
    split at h <;> cases h
    rfl
  unfold decodeDeviceId at h
  split at h
  · cases h; rfl
  · simp only [bind, Except.bind] at h
    repeat' (split at h)
    all_goals first
      | (rename_i hh
         simp only [Except.error.injEq] at h
         subst h
         first | exact byteErr hh | exact uintErr hh)
      | cases h

/-- The float32 list of the encodings of patterns (R168). -/
theorem decodeFloats_encF32 (fs : List F32) : decodeFloats (fs.flatMap encF32) = .ok fs := by
  induction fs with
  | nil => rfl
  | cons x t ih =>
    have h := decF32_encF32_append x []
    simp only [List.append_nil, encF32] at h
    have e : List.flatMap encF32 (x :: t) = x.extractLsb' 24 8 :: x.extractLsb' 16 8 :: x.extractLsb' 8 8 ::
        x.extractLsb' 0 8 :: List.flatMap encF32 t := rfl
    rw [e, decodeFloats]
    simp only [bind, Except.bind, h, ih]
    rfl

/-- A list of another size than four times a count is short (R168). -/
theorem decodeFloats_short : ∀ {p : Bytes}, p.length % 4 ≠ 0 → decodeFloats p = .error fieldShort
  | [], h => by simp at h
  | [_], _ => rfl
  | [_, _], _ => rfl
  | [_, _, _], _ => rfl
  | a :: b :: c :: d :: rest, h => by
    have ih := decodeFloats_short (p := rest) (by simp only [List.length_cons] at h; omega)
    have e : decF32 [a, b, c, d] = .ok (BitVec.ofNat 32 (beNat [a, b, c, d])) := by simp [decF32]
    simp only [decodeFloats, ih, e, bind, Except.bind]

/-- The one error of a float list (R168). -/
theorem decodeFloats_error {p : Bytes} {e : Raised} (h : decodeFloats p = .error e) : e = fieldShort := by
  induction p using decodeFloats.induct with
  | case1 => cases h
  | case2 a b c d rest ih =>
    have h4 : decF32 [a, b, c, d] = .ok (BitVec.ofNat 32 (beNat [a, b, c, d])) := by simp [decF32]
    simp only [decodeFloats, h4, bind, Except.bind] at h
    split at h
    · rename_i hr
      cases h
      exact ih hr
    · cases h
  | case3 p h1 h2 =>
    match p, h1, h2, h with
    | [], h1, _, _ => exact absurd rfl h1
    | [_], _, _, h | [_, _], _, _, h | [_, _, _], _, _, h => cases h; rfl
    | a :: b :: c :: d :: rest, _, h2, _ => exact absurd rfl (h2 a b c d rest)

/-- The error of a reply's samples is a sample's (R180, R198). -/
theorem decodeSamples_snd {ts : TsMode} {cr : CrMode} {e : Raised} : ∀ {ps : List Bytes},
    (decodeSamples ts cr ps).2 = some e → ∃ p ∈ ps, decodeSample p ts cr = .error e
  | [], h => by simp [decodeSamples] at h
  | p :: ps, h => by
    unfold decodeSamples at h
    split at h
    · rename_i hd
      cases h
      exact ⟨p, List.mem_cons_self, hd⟩
    · obtain ⟨q, hq, hd⟩ := decodeSamples_snd (ps := ps) h
      exact ⟨q, List.mem_cons_of_mem _ hq, hd⟩

end Sys2Proof.Machine
end

