-- ==== Sys2Proof/Laws/Classify.lean ====
section
/-! SUPPORT. What a classification gives for the buffers the device's own rows make: one system message
(spec/43_classifier.md R134, R141), and one frame of the expected opcode (R143); what the decoding of a reply by its
shape gives; and that a device fault is only ever the outcome of a fatal message. -/

namespace Sys2Proof.Machine

/-- The completion of a cycle, once its classification is known (R120). -/
theorem State.completeCycle_of {s : State} {c : Classified} (h : s.classified = c) :
    s.completeCycle = (((s.recordClassified c).applyEffects c.report).deliver c.report).endCycle := by
  subst h; rfl

theorem scan_sysFrame (t : MsgTable) (code : Byte) :
    scan t (sysFrame code) = Scratch.afterMessage ⟨code, t.lookup code⟩ := by
  simp [scan, scanByte, Scratch.initial, sysFrame, sysOpcode, sysLength, Scratch.afterMessage]

/-- A whole message at the head of a buffer that no command expects takes the scan path (R140, R141). -/
theorem classify_sysFrame (cfg : Config) (ts : TsMode) (cr : CrMode) (cl : Scratch) (code : Byte) {expect : Option Byte}
    (shape : ReplyShape) (kind : CycleKind) (h : expect ≠ some 0x18) :
    classify cfg ts cr cl (sysFrame code) expect shape kind false =
      ⟨evaluate [⟨code, cfg.msgTable.lookup code⟩], [],
        Scratch.afterMessage ⟨code, cfg.msgTable.lookup code⟩⟩ := by
  have h1 : classify cfg ts cr cl (sysFrame code) expect shape kind false =
      scanPath cfg.msgTable (sysFrame code) expect kind := by
    unfold classify sysFrame
    cases expect with
    | none => rfl
    | some e =>
      have : ¬ sysOpcode = e := by rintro rfl; exact h rfl
      simp [this]
  have h2 : (Scratch.afterMessage ⟨code, cfg.msgTable.lookup code⟩).verdict = .messages [⟨code, cfg.msgTable.lookup code⟩] := by
    simp [Scratch.verdict, Scratch.afterMessage]
  simp only [h1, scanPath, scan_sysFrame, h2]

/-- The burst of one message in a fresh cycle: the cycle completes with what its message evaluates to. -/
theorem State.burst_sysFrame {s : State} (code : Byte) (h : s.FreshCycle) (he : s.expect ≠ some 0x18)
    (hl : 4 ≤ s.cfg.rxbufMax) :
    s.burst (sysFrame code) =
      (((({ s with rxbuf := sysFrame code, idleCnt := s.idleThreshold } : State).recordClassified
        ⟨evaluate [⟨code, s.cfg.msgTable.lookup code⟩], [],
          Scratch.afterMessage ⟨code, s.cfg.msgTable.lookup code⟩⟩).applyEffects
          (evaluate [⟨code, s.cfg.msgTable.lookup code⟩])).deliver (evaluate [⟨code, s.cfg.msgTable.lookup code⟩])).endCycle := by
  rw [State.burst_fresh h (by simp [sysFrame]) (by simpa [sysFrame] using hl)]
  rw [State.completeCycle_of (c := ⟨evaluate [⟨code, s.cfg.msgTable.lookup code⟩], [],
          Scratch.afterMessage ⟨code, s.cfg.msgTable.lookup code⟩⟩)]
  simp only [State.classified, h.2.2.1]
  exact classify_sysFrame _ _ _ _ code _ _ he

/-- One frame of the expected opcode is parsed to its payload (R105). -/
theorem parseFrames_envelope (e : Byte) {p : Bytes} (hp : p.length ≤ 255) :
    parseFrames (envelope e p) e = .ok [p] [] := by
  have h := parseFrom_frame e (p.length + 2) [] hp []
  have h2 : [e, BitVec.ofNat 8 p.length] ++ p ++ [e] ++ [] = envelope e p := by simp [envelope]
  rw [h2] at h
  have hl : (envelope e p).length = p.length + 2 + 1 := by simp [envelope]
  rw [parseFrames, hl, h, parseFrom_stop _ _ _ (by simp)]
  simp

/-- A frame of the expected opcode and nothing else is decoded by shape (R143). -/
theorem classify_envelope (cfg : Config) (ts : TsMode) (cr : CrMode) (cl : Scratch) (e : Byte) {p : Bytes}
    (shape : ReplyShape) (kind : CycleKind) (hp : p.length ≤ 255) :
    classify cfg ts cr cl (envelope e p) (some e) shape kind false = finishFrames cfg ts cr shape [p] [] cl := by
  have h := parseFrames_envelope e hp
  simp only [classify, envelope, commandPath] at h ⊢
  simp [h]

/-- The burst of one such frame in a fresh cycle. -/
theorem State.burst_envelope {s : State} {e : Byte} {p : Bytes} (h : s.FreshCycle) (he : s.expect = some e)
    (hp : p.length ≤ 255) (hl : p.length + 3 ≤ s.cfg.rxbufMax) :
    s.burst (envelope e p) =
      (((({ s with rxbuf := envelope e p, idleCnt := s.idleThreshold } : State).recordClassified
        (finishFrames s.cfg s.tsMode s.crMode s.shape [p] [] s.cl)).applyEffects
          (finishFrames s.cfg s.tsMode s.crMode s.shape [p] [] s.cl).report).deliver
            (finishFrames s.cfg s.tsMode s.crMode s.shape [p] [] s.cl).report).endCycle := by
  rw [State.burst_fresh h (by simp [envelope]) (by simp [envelope]; omega)]
  rw [State.completeCycle_of (c := finishFrames s.cfg s.tsMode s.crMode s.shape [p] [] s.cl)]
  simp only [State.classified, h.2.2.1, he]
  exact classify_envelope _ _ _ _ e _ _ hp

/-- A reply that holds under its shape is decoded to its value, and its samples are emitted (R143, R198). -/
theorem decodeValue_of_replyHolds {c : Config} {ts : TsMode} {cr : CrMode} {shape : ReplyShape} {ps : List Bytes}
    {value : ReplyValue} {ss : List Sample} (h : ReplyHolds c ts cr shape ps value ss) :
    decodeValue c ts cr shape ps = (ss, .ok value) := by
  cases shape <;> simp only [ReplyHolds] at h
  · obtain ⟨rfl, rfl⟩ := h
    simp [decodeValue, concatFrames]
  · obtain ⟨hl, rfl, rfl⟩ := h
    simp [decodeValue, concatFrames, decodeUint, decUint, hl, Except.map, -List.length_flatten]
  · obtain ⟨fs, hf, rfl, rfl⟩ := h
    simp [decodeValue, concatFrames, decodeFloatList, hf, decodeFloats_encF32, Except.map]
  · obtain ⟨hd, rfl⟩ := h
    simp [decodeValue, concatFrames, hd]
  · obtain ⟨hs, rfl⟩ := h
    simp [decodeValue, decodeSamples_ok hs]

/-- A reply that breaks its shape is its error, which is never a device fault, and the samples before it are emitted. -/
theorem decodeValue_of_replyBreaks {c : Config} {ts : TsMode} {cr : CrMode} {shape : ReplyShape} {ps : List Bytes}
    {err : Raised} {ss : List Sample} (h : ReplyBreaks c ts cr shape ps err ss) :
    decodeValue c ts cr shape ps = (ss, .error err) ∧ err.kind.isFatal = false := by
  cases shape <;> simp only [ReplyBreaks] at h
  · obtain ⟨h1, h2, h3, rfl, rfl⟩ := h
    exact ⟨by simp [decodeValue, concatFrames, decodeUint, decUint, h1, h2, h3, Except.map, fieldShort,
      -List.length_flatten], rfl⟩
  · obtain ⟨h1, rfl, rfl⟩ := h
    exact ⟨by simp [decodeValue, concatFrames, decodeFloatList, decodeFloats_short h1, Except.map, fieldShort], rfl⟩
  · obtain ⟨h1, rfl⟩ := h
    exact ⟨by simp [decodeValue, concatFrames, h1], by rw [decodeDeviceId_error h1]; rfl⟩
  · obtain ⟨before, p, after, rfl, hb, hp⟩ := h
    refine ⟨by simp [decodeValue, decodeSamples_error after hp hb], ?_⟩
    rcases decodeSample_error hp with rfl | rfl <;> rfl

/-! ## Device faults -/

/-- No error of the parser is a device fault (R105). -/
theorem parseFrom_err_not_fatal {e : Byte} {err : Raised} : ∀ {fuel : Nat} {frames : List Bytes} {b : Bytes},
    parseFrom e fuel frames b = .err err → err.kind.isFatal = false := by
  have incompleteErr : ∀ {frames i}, incomplete frames i = .err err → err.kind.isFatal = false := by
    intro frames i h
    unfold incomplete at h
    split at h <;> cases h <;> rfl
  intro fuel
  induction fuel with
  | zero =>
    intro frames b h
    unfold parseFrom at h
    split at h <;> (try cases h)
    split at h <;> (try cases h)
    split at h
    · exact incompleteErr h
    · split at h
      · exact incompleteErr h
      split at h
      · exact incompleteErr h
      cases h
  | succ n ih =>
    intro frames b h
    unfold parseFrom at h
    split at h <;> (try cases h)
    split at h <;> (try cases h)
    split at h
    · exact incompleteErr h
    · split at h
      · exact incompleteErr h
      split at h
      · exact incompleteErr h
      exact ih h

/-- No error of a reply's decoding is a device fault (R165 to R169, R198). -/
theorem decodeValue_error_not_fatal {c : Config} {ts : TsMode} {cr : CrMode} {shape : ReplyShape} {ps : List Bytes}
    {err : Raised} (h : (decodeValue c ts cr shape ps).2 = .error err) : err.kind.isFatal = false := by
  cases shape <;> simp only [decodeValue] at h
  · cases h
  · simp only [decodeUint, decUint] at h
    split at h <;> cases h
    rfl
  · simp only [decodeFloatList] at h
    cases hd : decodeFloats (concatFrames ps) with
    | ok fs => rw [hd] at h; cases h
    | error e => rw [hd, decodeFloats_error hd] at h; cases h; rfl
  · rw [decodeDeviceId_error h]; rfl
  · split at h
    · rename_i hs
      cases h
      obtain ⟨p, _, hd⟩ := decodeSamples_snd hs
      rcases decodeSample_error hd with rfl | rfl <;> rfl
    · cases h

/-- A list of messages comes to a device fault only if one of them is that fault's (R142 item 1). -/
theorem evaluate_fatal {msgs m : List SysMsg} {k : ErrorKind} {i : ErrInfo} (h : evaluate msgs = .fail k i m)
    (hf : k.isFatal = true) : m = msgs ∧ ∃ x ∈ msgs, fatalError x.name = some ⟨k, i⟩ := by
  unfold evaluate at h
  split at h
  · rename_i he
    cases h
    exact ⟨rfl, by simpa using List.exists_of_findSome?_eq_some he⟩
  split at h
  · rename_i he
    cases h
    obtain ⟨x, _, hx⟩ := List.exists_of_findSome?_eq_some he
    unfold unknownError at hx
    split at hx <;> cases hx
    cases hf
  split at h
  · rename_i he
    cases h
    obtain ⟨x, _, hx⟩ := List.exists_of_findSome?_eq_some he
    unfold nackError at hx
    split at hx <;> cases hx <;> cases hf
  split at h <;> cases h

/-- The same of a classification: a device fault is the outcome of a fatal message among those it reports (R140, R141, R143). -/
theorem classify_fatal {cfg : Config} {ts : TsMode} {cr : CrMode} {cl : Scratch} {b : Bytes} {expect : Option Byte}
    {shape : ReplyShape} {kind : CycleKind} {overflow : Bool} {k : ErrorKind} {i : ErrInfo} {m : List SysMsg}
    (h : (classify cfg ts cr cl b expect shape kind overflow).report = .fail k i m) (hf : k.isFatal = true) :
    ∃ x ∈ m, fatalError x.name = some ⟨k, i⟩ := by
  have onScan : ∀ {expect}, (scanPath cfg.msgTable b expect kind).report = .fail k i m →
      ∃ x ∈ m, fatalError x.name = some ⟨k, i⟩ := by
    intro expect h
    simp only [scanPath] at h
    repeat' (split at h)
    case h_1 => obtain ⟨rfl, h⟩ := evaluate_fatal h hf; exact h
    all_goals cases h
    all_goals cases hf
  have onFrames : ∀ {frames msgs cl}, (finishFrames cfg ts cr shape frames msgs cl).report = .fail k i m →
      ∃ x ∈ m, fatalError x.name = some ⟨k, i⟩ := by
    intro frames msgs cl h
    simp only [finishFrames] at h
    split at h
    · rename_i he
      cases h
      rw [decodeValue_error_not_fatal he] at hf
      cases hf
    · split at h
      · cases h
      · split at h
        · rename_i he
          cases h
          exact (evaluate_fatal he hf).2
        · cases h
  have onCommand : ∀ {e}, (commandPath cfg ts cr cl b e shape).report = .fail k i m →
      ∃ x ∈ m, fatalError x.name = some ⟨k, i⟩ := by
    intro e h
    unfold commandPath at h
    split at h
    · rename_i hp
      cases h
      rw [parseFrom_err_not_fatal hp] at hf
      cases hf
    · split at h
      · exact onFrames h
      · split at h
        · cases h; cases hf
        · simp only at h
          split at h
          · exact onFrames h
          all_goals cases h; cases hf
  unfold classify at h
  split at h
  · cases h; cases hf
  · split at h
    · split at h
      · exact onCommand h
      · exact onScan h
    · exact onScan h

end Sys2Proof.Machine
end

