-- ==== Sys2Proof/Laws/Decode.lean ====
section
/-! SUPPORT. Laws of the decoder's parts: the envelope, the tables of codes, and the records. -/

namespace Sys2Proof

@[simp] theorem openEnvelope_envelope (op : Byte) {p : Bytes} (hp : p.length ≤ 255) :
    openEnvelope (envelope op p) = .ok (op, p) := by
  have hm : p.length % 256 = p.length := by omega
  simp [openEnvelope, envelope, hm]

/-- What the envelope opens to is what it was made of (R60). -/
theorem openEnvelope_eq_ok {bs : Bytes} {f : Byte × Bytes} (h : openEnvelope bs = .ok f) :
    bs = envelope f.1 f.2 ∧ f.2.length ≤ 255 := by
  unfold openEnvelope at h
  split at h
  · rename_i opc len rest
    split at h
    · cases h
    split at h
    · cases h
    split at h
    · cases h
    rename_i h2 h3
    simp only [Except.ok.injEq] at h
    subst h
    simp only [not_not] at h2 h3
    have hb := len.isLt
    have hl : rest.dropLast.length = len.toNat := by simp [h2]
    refine ⟨?_, by simp only [hl]; omega⟩
    simp only [envelope, hl, BitVec.ofNat_toNat, BitVec.setWidth_eq]
    congr 2
    exact (List.dropLast_append_getLast? opc (by simpa using h3)).symm
  · cases h

/-! ## The message table -/

/-- The row a look-up finds holds the code (R75). -/
theorem MsgTable.lookup_spec (t : MsgTable) (code : Byte) :
    match t.lookup code with
    | .frameNotAcknowledge => code = t.frameNotAcknowledge
    | .timeout => code = t.timeout
    | .wakeUp => code = t.wakeUp
    | .tcpSocketValid => code = t.tcpSocketValid
    | .notAcknowledgeNotExecuted => code = t.notAcknowledgeNotExecuted
    | .notAcknowledgeUnrecognized => code = t.notAcknowledgeUnrecognized
    | .commandAcknowledge => code = t.commandAcknowledge
    | .systemReady => code = t.systemReady
    | .overcurrent => code = t.overcurrent
    | .overvoltage => code = t.overvoltage
    | .dataHoldup => code = t.dataHoldup
    | .unknown => code ∉ t.codes := by
  unfold MsgTable.lookup
  by_cases h0 : code = t.frameNotAcknowledge
  · rw [if_pos h0]; exact h0
  rw [if_neg h0]
  by_cases h1 : code = t.timeout
  · rw [if_pos h1]; exact h1
  rw [if_neg h1]
  by_cases h2 : code = t.wakeUp
  · rw [if_pos h2]; exact h2
  rw [if_neg h2]
  by_cases h3 : code = t.tcpSocketValid
  · rw [if_pos h3]; exact h3
  rw [if_neg h3]
  by_cases h4 : code = t.notAcknowledgeNotExecuted
  · rw [if_pos h4]; exact h4
  rw [if_neg h4]
  by_cases h5 : code = t.notAcknowledgeUnrecognized
  · rw [if_pos h5]; exact h5
  rw [if_neg h5]
  by_cases h6 : code = t.commandAcknowledge
  · rw [if_pos h6]; exact h6
  rw [if_neg h6]
  by_cases h7 : code = t.systemReady
  · rw [if_pos h7]; exact h7
  rw [if_neg h7]
  by_cases h8 : code = t.overcurrent
  · rw [if_pos h8]; exact h8
  rw [if_neg h8]
  by_cases h9 : code = t.overvoltage
  · rw [if_pos h9]; exact h9
  rw [if_neg h9]
  by_cases h10 : code = t.dataHoldup
  · rw [if_pos h10]; exact h10
  rw [if_neg h10]
  simp [MsgTable.codes, *]

/-- A code's message encodes to the code (R63, R75). -/
theorem encode_sysOf (c : Config) (code : Byte) : encode c (sysOf c code) = encodeSys code := by
  have h := c.msgTable.lookup_spec code
  unfold sysOf
  split at h <;> rename_i hl <;> simp only [hl, encode] <;> rw [h]

/-- A code without a row of its own is unknown to the scan (R134). -/
theorem lookup_of_sysGeneric {c : Config} {code : Byte} (h : sysOf c code = .sysGeneric code) :
    c.msgTable.lookup code = .unknown := by
  unfold sysOf at h
  split at h <;> simp_all

/-- Legal: the codes are distinct (R13). -/
theorem MsgTable.nodup_of_legal {t : MsgTable} (h : t.legal = true) : t.codes.Nodup :=
  of_decide_eq_true h

/-- Under distinct codes the look-up of a message's code is the message (R75). -/
theorem MsgTable.lookup_code {t : MsgTable} (h : t.legal = true) :
    t.lookup t.frameNotAcknowledge = .frameNotAcknowledge ∧
    t.lookup t.timeout = .timeout ∧
    t.lookup t.wakeUp = .wakeUp ∧
    t.lookup t.tcpSocketValid = .tcpSocketValid ∧
    t.lookup t.notAcknowledgeNotExecuted = .notAcknowledgeNotExecuted ∧
    t.lookup t.notAcknowledgeUnrecognized = .notAcknowledgeUnrecognized ∧
    t.lookup t.commandAcknowledge = .commandAcknowledge ∧
    t.lookup t.systemReady = .systemReady ∧
    t.lookup t.overcurrent = .overcurrent ∧
    t.lookup t.overvoltage = .overvoltage ∧
    t.lookup t.dataHoldup = .dataHoldup := by
  have h := t.nodup_of_legal h
  simp only [MsgTable.codes, List.nodup_cons, List.mem_cons, not_or, List.not_mem_nil, not_false_eq_true, and_true,
    List.nodup_nil] at h
  obtain ⟨⟨h0_1, h0_2, h0_3, h0_4, h0_5, h0_6, h0_7, h0_8, h0_9, h0_10⟩, ⟨h1_2, h1_3, h1_4, h1_5, h1_6, h1_7, h1_8,
    h1_9, h1_10⟩, ⟨h2_3, h2_4, h2_5, h2_6, h2_7, h2_8, h2_9, h2_10⟩, ⟨h3_4, h3_5, h3_6, h3_7, h3_8, h3_9, h3_10⟩,
    ⟨h4_5, h4_6, h4_7, h4_8, h4_9, h4_10⟩, ⟨h5_6, h5_7, h5_8, h5_9, h5_10⟩, ⟨h6_7, h6_8, h6_9, h6_10⟩, ⟨h7_8, h7_9,
    h7_10⟩, ⟨h8_9, h8_10⟩, h9_10⟩ := h
  refine ⟨?_, ?_, ?_, ?_, ?_, ?_, ?_, ?_, ?_, ?_, ?_⟩ <;> unfold MsgTable.lookup
  · rw [if_pos rfl]
  · rw [if_neg (Ne.symm h0_1), if_pos rfl]
  · rw [if_neg (Ne.symm h0_2), if_neg (Ne.symm h1_2), if_pos rfl]
  · rw [if_neg (Ne.symm h0_3), if_neg (Ne.symm h1_3), if_neg (Ne.symm h2_3), if_pos rfl]
  · rw [if_neg (Ne.symm h0_4), if_neg (Ne.symm h1_4), if_neg (Ne.symm h2_4), if_neg (Ne.symm h3_4), if_pos rfl]
  · rw [if_neg (Ne.symm h0_5), if_neg (Ne.symm h1_5), if_neg (Ne.symm h2_5), if_neg (Ne.symm h3_5), if_neg (Ne.symm
      h4_5), if_pos rfl]
  · rw [if_neg (Ne.symm h0_6), if_neg (Ne.symm h1_6), if_neg (Ne.symm h2_6), if_neg (Ne.symm h3_6), if_neg (Ne.symm
      h4_6), if_neg (Ne.symm h5_6), if_pos rfl]
  · rw [if_neg (Ne.symm h0_7), if_neg (Ne.symm h1_7), if_neg (Ne.symm h2_7), if_neg (Ne.symm h3_7), if_neg (Ne.symm
      h4_7), if_neg (Ne.symm h5_7), if_neg (Ne.symm h6_7), if_pos rfl]
  · rw [if_neg (Ne.symm h0_8), if_neg (Ne.symm h1_8), if_neg (Ne.symm h2_8), if_neg (Ne.symm h3_8), if_neg (Ne.symm
      h4_8), if_neg (Ne.symm h5_8), if_neg (Ne.symm h6_8), if_neg (Ne.symm h7_8), if_pos rfl]
  · rw [if_neg (Ne.symm h0_9), if_neg (Ne.symm h1_9), if_neg (Ne.symm h2_9), if_neg (Ne.symm h3_9), if_neg (Ne.symm
      h4_9), if_neg (Ne.symm h5_9), if_neg (Ne.symm h6_9), if_neg (Ne.symm h7_9), if_neg (Ne.symm h8_9), if_pos rfl]
  · rw [if_neg (Ne.symm h0_10), if_neg (Ne.symm h1_10), if_neg (Ne.symm h2_10), if_neg (Ne.symm h3_10), if_neg
      (Ne.symm h4_10), if_neg (Ne.symm h5_10), if_neg (Ne.symm h6_10), if_neg (Ne.symm h7_10), if_neg (Ne.symm h8_10),
      if_neg (Ne.symm h9_10), if_pos rfl]

/-! ## The codes of the enums -/

theorem scaleOf_eq_some {c : Config} {n : Nat} {x : Scale} (h : scaleOf c n = some x) : (c.scaleCode x).toNat = n := by
  unfold scaleOf at h
  split at h
  · cases h; simp_all [Config.scaleCode]
  · split at h
    · cases h; simp_all [Config.scaleCode]
    · cases h

theorem excitationOf_eq_some {c : Config} {n : Nat} {x : Excitation} (h : excitationOf c n = some x) :
    (c.excitationCode x).toNat = n := by
  unfold excitationOf at h
  split at h
  · cases h; simp_all [Config.excitationCode]
  · split at h
    · cases h; simp_all [Config.excitationCode]
    · cases h

theorem boolOf_eq_some {c : Config} {n : Nat} {x : Bool} (h : boolOf c n = some x) : (c.boolCode x).toNat = n := by
  unfold boolOf at h
  split at h
  · cases h; simp_all [Config.boolCode]
  · split at h
    · cases h; simp_all [Config.boolCode]
    · cases h

theorem scaleOf_code {c : Config} (h : c.scaleLinear ≠ c.scaleLogarithmic) (x : Scale) :
    scaleOf c (c.scaleCode x).toNat = some x := by
  have h' : ¬ c.scaleLogarithmic.toNat = c.scaleLinear.toNat := fun e => h (BitVec.eq_of_toNat_eq e.symm)
  cases x <;> simp [scaleOf, Config.scaleCode, h']

theorem excitationOf_code {c : Config} (h : c.excitationVoltage ≠ c.excitationCurrent) (x : Excitation) :
    excitationOf c (c.excitationCode x).toNat = some x := by
  have h' : ¬ c.excitationCurrent.toNat = c.excitationVoltage.toNat := fun e => h (BitVec.eq_of_toNat_eq e.symm)
  cases x <;> simp [excitationOf, Config.excitationCode, h']

theorem boolOf_code {c : Config} (h : c.boolFalse ≠ c.boolTrue) (x : Bool) :
    boolOf c (c.boolCode x).toNat = some x := by
  have h' : ¬ c.boolTrue.toNat = c.boolFalse.toNat := fun e => h (BitVec.eq_of_toNat_eq e.symm)
  cases x <;> simp [boolOf, Config.boolCode, h']

/-! ## The command table -/

@[simp] theorem takeHead_append (head rest : Bytes) : takeHead head (head ++ rest) = some rest := by
  induction head with
  | nil => rfl
  | cons b t ih => simp [takeHead, ih]

theorem takeHead_eq_some {head bs rest : Bytes} (h : takeHead head bs = some rest) : bs = head ++ rest := by
  induction head generalizing bs with
  | nil => simpa [takeHead] using h
  | cons b t ih =>
    simp only [takeHead, Option.bind_eq_some_iff] at h
    obtain ⟨r, h1, h2⟩ := h
    rw [takeTag_eq_some h1, ih h2, List.cons_append]

theorem ofNat32_toNat {x : Nat} (h : x < 256 ^ 4) : (BitVec.ofNat 32 x).toNat = x := by
  rw [BitVec.toNat_ofNat]
  exact Nat.mod_eq_of_lt (by simpa using h)

/-- The operand bytes of a record are the record's encoding (R67). -/
theorem decodeSweep_eq_some {c : Config} {args : Bytes} {sp : SweepSpec} (h : decodeSweep c args = some sp) :
    args = encodeSweep c sp := by
  unfold decodeSweep at h
  obtain ⟨⟨a1, r1⟩, h1, h⟩ := Option.bind_eq_some_iff.mp h
  dsimp only at h
  obtain ⟨⟨a2, r2⟩, h2, h⟩ := Option.bind_eq_some_iff.mp h
  dsimp only at h
  obtain ⟨⟨a3, r3⟩, h3, h⟩ := Option.bind_eq_some_iff.mp h
  dsimp only at h
  obtain ⟨⟨a4, r4⟩, h4, h⟩ := Option.bind_eq_some_iff.mp h
  dsimp only at h
  obtain ⟨⟨a5, r5⟩, h5, h⟩ := Option.bind_eq_some_iff.mp h
  dsimp only at h
  obtain ⟨⟨a6, r6⟩, h6, h⟩ := Option.bind_eq_some_iff.mp h
  dsimp only at h
  obtain ⟨r7, h7, h⟩ := Option.bind_eq_some_iff.mp h
  obtain ⟨⟨a8, r8⟩, h8, h⟩ := Option.bind_eq_some_iff.mp h
  dsimp only at h
  obtain ⟨r9, h9, h⟩ := Option.bind_eq_some_iff.mp h
  obtain ⟨⟨a10, r10⟩, h10, h⟩ := Option.bind_eq_some_iff.mp h
  dsimp only at h
  obtain ⟨r11, h11, h⟩ := Option.bind_eq_some_iff.mp h
  obtain ⟨⟨a12, r12⟩, h12, h⟩ := Option.bind_eq_some_iff.mp h
  dsimp only at h
  obtain ⟨sc, hsc, h⟩ := Option.bind_eq_some_iff.mp h
  obtain ⟨ps, hps, h⟩ := Option.bind_eq_some_iff.mp h
  obtain ⟨ex, hex, h⟩ := Option.bind_eq_some_iff.mp h
  split at h
  · rename_i hr
    simp only [Option.some.injEq] at h
    subst h hr
    obtain ⟨rfl, b1⟩ := takeBE_eq_some h1
    obtain ⟨rfl, b2⟩ := takeBE_eq_some h2
    obtain ⟨rfl, b3⟩ := takeBE_eq_some h3
    obtain ⟨rfl, b4⟩ := takeBE_eq_some h4
    obtain ⟨rfl, b5⟩ := takeBE_eq_some h5
    obtain ⟨rfl, b6⟩ := takeBE_eq_some h6
    have := takeTag_eq_some h7; subst this
    obtain ⟨rfl, b8⟩ := takeBE_eq_some h8
    have := takeTag_eq_some h9; subst this
    obtain ⟨rfl, b10⟩ := takeBE_eq_some h10
    have := takeTag_eq_some h11; subst this
    obtain ⟨rfl, b12⟩ := takeBE_eq_some h12
    simp only [encodeSweep, ofNat32_toNat b1, ofNat32_toNat b2, ofNat32_toNat b5, ofNat32_toNat b6,
      scaleOf_eq_some hsc, boolOf_eq_some hps, excitationOf_eq_some hex]
    simp
  · cases h

/-- A command's operand bytes are as many as its layout says, and its encoding is made of them (R66 to R69). -/
theorem operandsOf_eq_some {c : Config} {cmd : Cmd} {args : Bytes} {i : Instr} (h : operandsOf c cmd args = some i) :
    args.length = c.operandWidth cmd ∧ encode c i = encodeCommand c cmd args := by
  cases cmd <;> simp only [operandsOf] at h
  case addFreqList =>
    simp only [Option.map_eq_some_iff] at h
    obtain ⟨sp, h1, rfl⟩ := h
    have e := decodeSweep_eq_some h1
    exact ⟨by rw [e]; simp [encodeSweep, Config.operandWidth], by rw [e]; rfl⟩
  case startMeas =>
    split at h
    · rename_i lo hi
      simp only [Option.some.injEq] at h
      subst h
      refine ⟨rfl, ?_⟩
      have h1 : BitVec.ofNat 8 (lo.toNat + 256 * hi.toNat) = lo := by
        apply BitVec.eq_of_toNat_eq
        simp only [BitVec.toNat_ofNat]
        have := lo.isLt
        omega
      have h2 : BitVec.ofNat 8 ((lo.toNat + 256 * hi.toNat) / 256) = hi := by
        apply BitVec.eq_of_toNat_eq
        simp only [BitVec.toNat_ofNat]
        have := lo.isLt
        have := hi.isLt
        omega
      simp only [encode, h1, h2]
    · cases h
  case getFreqPoint =>
    split at h
    · rename_i hl
      simp only [Option.some.injEq] at h
      subst h
      refine ⟨hl, ?_⟩
      have e := beBytes_beNat args
      rw [hl] at e
      simp only [encode, e]
    · cases h
  all_goals
    split at h
    · rename_i hl
      simp only [Option.some.injEq] at h
      subst h; subst hl
      exact ⟨rfl, rfl⟩
    · cases h

/-- What reading bytes as one command says of them. -/
theorem commandAs_eq_some {c : Config} {op : Byte} {p : Bytes} {cmd : Cmd} {i : Instr}
    (h : commandAs c op p cmd = some i) :
    op = (c.cmdRow cmd).opcode ∧ ∃ args, p = (c.cmdRow cmd).head ++ args ∧ args.length = c.operandWidth cmd ∧
      encode c i = encodeCommand c cmd args := by
  unfold commandAs at h
  split at h
  · rename_i ho
    simp only [Option.bind_eq_some_iff] at h
    obtain ⟨args, h1, h2⟩ := h
    exact ⟨ho.symm, args, takeHead_eq_some h1, operandsOf_eq_some h2⟩
  · cases h

/-- Under a legal table at most one command has given bytes, so the order of the table does not matter. -/
theorem commandOf_of_commandAs {c : Config} (hc : c.tableLegal = true) {op : Byte} {p : Bytes} {cmd : Cmd} {i : Instr}
    (h : commandAs c op p cmd = some i) : commandOf c op p = some i := by
  have hall : ∀ x : Cmd, x ∈ Cmd.all := by intro x; cases x <;> decide
  have huniq : ∀ a, a ≠ cmd → commandAs c op p a = none := by
    intro a ha
    rw [Option.eq_none_iff_forall_ne_some]
    intro j hj
    obtain ⟨o1, a1, p1, l1, -⟩ := commandAs_eq_some h
    obtain ⟨o2, a2, p2, l2, -⟩ := commandAs_eq_some hj
    have hap : c.apart a cmd = true := by
      simp only [Config.tableLegal, List.all_eq_true, Bool.and_eq_true, Bool.or_eq_true, decide_eq_true_eq] at hc
      exact ((hc a (hall a)).2 cmd (hall cmd)).resolve_left ha
    simp only [Config.apart, Bool.or_eq_true, decide_eq_true_eq, Bool.and_eq_true, Bool.not_eq_true',
      ← Bool.not_eq_true, List.isPrefixOf_iff_prefix] at hap
    have hp1 : (c.cmdRow cmd).head <+: p := ⟨a1, p1.symm⟩
    have hp2 : (c.cmdRow a).head <+: p := ⟨a2, p2.symm⟩
    rcases hap with (h1 | h1) | ⟨h1, h2⟩
    · exact h1 (o2.symm.trans o1)
    · refine h1 ?_
      have e1 := congrArg List.length p1
      have e2 := congrArg List.length p2
      simp only [List.length_append] at e1 e2
      simp only [Config.payloadSize, ← l1, ← l2]
      omega
    · exact (List.prefix_or_prefix_of_prefix hp2 hp1).elim h1 h2
  unfold commandOf
  have hfind : ∀ l : List Cmd, cmd ∈ l → l.findSome? (commandAs c op p) = some i := by
    intro l hl
    induction l with
    | nil => cases hl
    | cons a t ih =>
      by_cases ha : a = cmd
      · subst ha; simp [h]
      · simp only [List.findSome?_cons, huniq a ha]
        exact ih (by simpa [Ne.symm ha] using hl)
  exact hfind _ (hall cmd)

/-- What the catalogue reads is one of its commands. -/
theorem commandOf_eq_some {c : Config} {op : Byte} {p : Bytes} {i : Instr} (h : commandOf c op p = some i) :
    ∃ cmd, commandAs c op p cmd = some i := by
  obtain ⟨cmd, -, h1⟩ := List.exists_of_findSome?_eq_some h
  exact ⟨cmd, h1⟩

/-! ## The ports -/

/-- No frame has the form QUERY_PAD gives a query (R102): its length byte would count one byte and be 0. -/
theorem paddedCommandOf_envelope (c : Config) (op : Byte) (p : Bytes) : paddedCommandOf c (envelope op p) = none := by
  unfold paddedCommandOf
  split
  · rename_i a b d e h
    rw [if_neg]
    rintro ⟨-, hb, -⟩
    simp only [envelope, List.cons.injEq] at h
    obtain ⟨-, h1, h2⟩ := h
    have h3 := congrArg List.length h2
    simp only [List.length_append, List.length_cons, List.length_nil] at h3
    have h4 : p.length = 1 := by omega
    rw [h4, hb] at h1
    exact absurd h1 (by decide)
  · rfl

/-- The padded form is read as the query of its opcode (R102). -/
theorem paddedCommandOf_eq_some {c : Config} {bs : Bytes} {i : Instr} (h : paddedCommandOf c bs = some i) :
    ∃ op, c.queryPad = true ∧ bs = [op, 0x00, 0x00, op] ∧ commandOf c op [] = some i := by
  unfold paddedCommandOf at h
  split at h
  · split at h
    · rename_i hc
      obtain ⟨h1, rfl, rfl, rfl⟩ := hc
      exact ⟨_, h1, rfl, h⟩
    · cases h
  · cases h

/-- A frame on the host's port is the command its opcode and payload name, else the generic row. -/
theorem decode_host_envelope (c : Config) (shape : ReplyShape) (op : Byte) {p : Bytes} (hp : p.length ≤ 255) :
    decode c (.host shape) (envelope op p) = .ok ((frameCommandOf c op p).getD (.frame (.send shape) op p)) := by
  simp only [decode, paddedCommandOf_envelope, openEnvelope_envelope op hp, Except.map]

/-- A frame on the device's port is the row its opcode and payload name, else the generic row. -/
theorem decode_device_envelope (c : Config) (ts : TsMode) (cr : CrMode) (op : Byte) {p : Bytes} (hp : p.length ≤ 255) :
    decode c (.device ts cr) (envelope op p) = .ok ((deviceRowOf c ts cr op p).getD (.frame .receive op p)) := by
  simp only [decode, openEnvelope_envelope op hp, Except.map]

/-- What the host's port accepts: a padded query, or a frame (R60, R102). -/
theorem decode_host_ok {c : Config} {shape : ReplyShape} {bs : Bytes} {i : Instr}
    (h : decode c (.host shape) bs = .ok i) :
    (∃ op, c.queryPad = true ∧ bs = [op, 0x00, 0x00, op] ∧ commandOf c op [] = some i) ∨
    (∃ op p, p.length ≤ 255 ∧ bs = envelope op p ∧ i = (frameCommandOf c op p).getD (.frame (.send shape) op p)) := by
  simp only [decode] at h
  split at h
  · rename_i hq
    simp only [Except.ok.injEq] at h
    subst h
    exact .inl (paddedCommandOf_eq_some hq)
  · cases ho : openEnvelope bs with
    | error e => rw [ho] at h; cases h
    | ok f =>
      rw [ho] at h
      simp only [Except.map, Except.ok.injEq] at h
      obtain ⟨h1, h2⟩ := openEnvelope_eq_ok ho
      exact .inr ⟨f.1, f.2, h2, h1, h.symm⟩

/-- What the device's port accepts: a frame (R60). -/
theorem decode_device_ok {c : Config} {ts : TsMode} {cr : CrMode} {bs : Bytes} {i : Instr}
    (h : decode c (.device ts cr) bs = .ok i) :
    ∃ op p, p.length ≤ 255 ∧ bs = envelope op p ∧ i = (deviceRowOf c ts cr op p).getD (.frame .receive op p) := by
  simp only [decode] at h
  cases ho : openEnvelope bs with
  | error e => rw [ho] at h; cases h
  | ok f =>
    rw [ho] at h
    simp only [Except.map, Except.ok.injEq] at h
    obtain ⟨h1, h2⟩ := openEnvelope_eq_ok ho
    exact ⟨f.1, f.2, h2, h1, h.symm⟩

end Sys2Proof
end

