-- ==== Sys2Proof/Laws/PerInstr.lean ====
section
/-! SUPPORT. A law of the encoder for every row of the table: an item's words begin and end with the same byte, its opcode, with
a length byte between (spec/30_encoding.md R60). -/

namespace Sys2Proof

theorem envelope_ends (op : Byte) (p : Bytes) :
    3 ≤ (envelope op p).length ∧ (envelope op p).head? = (envelope op p).getLast? := by
  refine ⟨by simp [envelope], ?_⟩
  have h : envelope op p = (op :: BitVec.ofNat 8 p.length :: p) ++ [op] := rfl
  rw [h, List.getLast?_concat]
  rfl

theorem encodeCommand_ends (c : Config) (cmd : Cmd) (operands : Bytes) :
    3 ≤ (encodeCommand c cmd operands).length ∧
      (encodeCommand c cmd operands).head? = (encodeCommand c cmd operands).getLast? := by
  unfold encodeCommand
  simp only
  split
  · simp
  · exact envelope_ends _ _

/-- The statement of the family. -/
def Laws.Envelope.Statement (i : Instr) : Prop :=
  ∀ c : Config, 3 ≤ (encode c i).length ∧ (encode c i).head? = (encode c i).getLast?

theorem Laws.Envelope.initSetup :
    Laws.Envelope.Statement .initSetup :=
  fun _ => encodeCommand_ends _ _ _

theorem Laws.Envelope.addFreqList (sp : SweepSpec) :
    Laws.Envelope.Statement (.addFreqList sp) :=
  fun _ => encodeCommand_ends _ _ _

theorem Laws.Envelope.startMeas (rep : Nat) :
    Laws.Envelope.Statement (.startMeas rep) :=
  fun _ => encodeCommand_ends _ _ _

theorem Laws.Envelope.stopMeas :
    Laws.Envelope.Statement .stopMeas :=
  fun _ => encodeCommand_ends _ _ _

theorem Laws.Envelope.getNumFreq :
    Laws.Envelope.Statement .getNumFreq :=
  fun _ => encodeCommand_ends _ _ _

theorem Laws.Envelope.getFreqPoint (row : Nat) :
    Laws.Envelope.Statement (.getFreqPoint row) :=
  fun _ => encodeCommand_ends _ _ _

theorem Laws.Envelope.getFreqList :
    Laws.Envelope.Statement .getFreqList :=
  fun _ => encodeCommand_ends _ _ _

theorem Laws.Envelope.getDeviceId :
    Laws.Envelope.Statement .getDeviceId :=
  fun _ => encodeCommand_ends _ _ _

theorem Laws.Envelope.frame (dir : FrameDir) (opcode : Byte) (payload : Bytes) :
    Laws.Envelope.Statement (.frame dir opcode payload) :=
  fun _ => envelope_ends _ _

theorem Laws.Envelope.sysFrameNotAcknowledge :
    Laws.Envelope.Statement .sysFrameNotAcknowledge :=
  fun _ => envelope_ends _ _

theorem Laws.Envelope.sysTimeout :
    Laws.Envelope.Statement .sysTimeout :=
  fun _ => envelope_ends _ _

theorem Laws.Envelope.sysWakeUp :
    Laws.Envelope.Statement .sysWakeUp :=
  fun _ => envelope_ends _ _

theorem Laws.Envelope.sysTcpSocketValid :
    Laws.Envelope.Statement .sysTcpSocketValid :=
  fun _ => envelope_ends _ _

theorem Laws.Envelope.sysNotAcknowledgeNotExecuted :
    Laws.Envelope.Statement .sysNotAcknowledgeNotExecuted :=
  fun _ => envelope_ends _ _

theorem Laws.Envelope.sysNotAcknowledgeUnrecognized :
    Laws.Envelope.Statement .sysNotAcknowledgeUnrecognized :=
  fun _ => envelope_ends _ _

theorem Laws.Envelope.sysCommandAcknowledge :
    Laws.Envelope.Statement .sysCommandAcknowledge :=
  fun _ => envelope_ends _ _

theorem Laws.Envelope.sysSystemReady :
    Laws.Envelope.Statement .sysSystemReady :=
  fun _ => envelope_ends _ _

theorem Laws.Envelope.sysOvercurrent :
    Laws.Envelope.Statement .sysOvercurrent :=
  fun _ => envelope_ends _ _

theorem Laws.Envelope.sysOvervoltage :
    Laws.Envelope.Statement .sysOvervoltage :=
  fun _ => envelope_ends _ _

theorem Laws.Envelope.sysDataHoldup :
    Laws.Envelope.Statement .sysDataHoldup :=
  fun _ => envelope_ends _ _

theorem Laws.Envelope.sysGeneric (code : Byte) :
    Laws.Envelope.Statement (.sysGeneric code) :=
  fun _ => envelope_ends _ _

theorem Laws.Envelope.sampleNoneAbsent (p : BitVec 16) (x : F32) (y : F32) :
    Laws.Envelope.Statement (.sampleNoneAbsent p x y) :=
  fun _ => envelope_ends _ _

theorem Laws.Envelope.sampleNonePresent (p : BitVec 16) (g : Byte) (x : F32) (y : F32) :
    Laws.Envelope.Statement (.sampleNonePresent p g x y) :=
  fun _ => envelope_ends _ _

theorem Laws.Envelope.sampleMs4Absent (p : BitVec 16) (t : BitVec 32) (x : F32) (y : F32) :
    Laws.Envelope.Statement (.sampleMs4Absent p t x y) :=
  fun _ => envelope_ends _ _

theorem Laws.Envelope.sampleMs4Present (p : BitVec 16) (t : BitVec 32) (g : Byte) (x : F32) (y : F32) :
    Laws.Envelope.Statement (.sampleMs4Present p t g x y) :=
  fun _ => envelope_ends _ _

theorem Laws.Envelope.sampleUs5Absent (p : BitVec 16) (t : BitVec 40) (x : F32) (y : F32) :
    Laws.Envelope.Statement (.sampleUs5Absent p t x y) :=
  fun _ => envelope_ends _ _

theorem Laws.Envelope.sampleUs5Present (p : BitVec 16) (t : BitVec 40) (g : Byte) (x : F32) (y : F32) :
    Laws.Envelope.Statement (.sampleUs5Present p t g x y) :=
  fun _ => envelope_ends _ _

end Sys2Proof
end

