-- ==== Sys2Proof/Laws/Runs.lean ====
section
/-! SUPPORT. Runs of the reader over answers laid down (spec/42_framereader.md R115 to R121). -/

namespace Sys2Proof.Machine

/-- A run goes on from the state its first step gives. -/
theorem run_next {s t : State} (n : Nat) (h : step s = .next t) :
    Host.Core.run core (n + 1) s = Host.Core.run core n t := by
  have h' : core.step s = .next t := h
  simp only [Host.Core.run, h']

@[simp] theorem run_zero (s : State) : Host.Core.run core 0 s = .next s := rfl

/-- A step on a laid-down answer is the reader's (R117), and leaves the rest of the script. -/
theorem step_reading {s : State} {a : ReadAnswer} {rest : List Input} (h : s.script = .read a :: rest) :
    step s = .next (({ s with script := rest } : State).runRead a) := by
  simp [step, State.nextInput, State.takeInput, h, State.fetch]

/-- In a running cycle the answer goes to the reader. -/
theorem State.runRead_collect {s : State} (h : s.phase = .collect) (a : ReadAnswer) : s.runRead a = s.readStep a := by
  simp [State.runRead, h]

/-- In `Ready` an answer without bytes changes nothing. -/
theorem State.runRead_ready_empty {s : State} (h : s.phase = .ready) : s.runRead .empty = s := by
  simp [State.runRead, h]

/-- The reader's step does not look at the script. -/
theorem State.append_over_script (s : State) (bs : Bytes) (l : List Input) :
    ({ s with script := l } : State).append bs = { s.append bs with script := l } := by
  simp only [State.append]
  split <;> rfl

theorem State.completeCycle_over_script (s : State) (l : List Input) :
    ({ s with script := l } : State).completeCycle = { s.completeCycle with script := l } := by
  have hc : ({ s with script := l } : State).classified = s.classified := rfl
  simp only [State.completeCycle, hc]
  generalize s.classified = c
  have ha : ∀ (t : State) (o : Report), ({ t with script := l } : State).applyEffects o = { t.applyEffects o with script := l } := by
    intro t o
    cases o <;> simp only [State.applyEffects] <;> (try split) <;> rfl
  have hd : ∀ (t : State) (o : Report), ({ t with script := l } : State).deliver o = { t.deliver o with script := l } := by
    intro t o
    cases o <;> rfl
  have hr : ({ s with script := l } : State).recordClassified c = { s.recordClassified c with script := l } := rfl
  rw [hr, ha, hd]
  rfl

theorem State.readStep_over_script (s : State) (a : ReadAnswer) (l : List Input) :
    ({ s with script := l } : State).readStep a = { s.readStep a with script := l } := by
  simp only [State.readStep]
  cases transportRead s.waiting a with
  | data bs =>
    have e : ({ s with script := l } : State).drainTransport = { s.drainTransport with script := l } := rfl
    simp only [e, State.readData, State.append_over_script]
  | empty =>
    have e : ({ s with script := l } : State).countIdle = { s.countIdle with script := l } := rfl
    have e2 : ({ s.countIdle with script := l } : State).idleReached = s.countIdle.idleReached := rfl
    simp only [State.readEmpty, e, e2, State.completeCycle_over_script]
    split <;> rfl
  | fail =>
    have e : ({ s with script := l } : State).inAcquisition = s.inAcquisition := rfl
    simp only [State.readFail, e]
    cases s.inAcquisition <;> rfl

theorem State.idleReads_over_script (n : Nat) (s : State) (l : List Input) :
    State.idleReads n { s with script := l } = { State.idleReads n s with script := l } := by
  induction n generalizing s with
  | zero => rfl
  | succ n ih =>
    by_cases hp : s.phase = .collect
    · have e := State.readStep_over_script s .empty l
      simp only [State.idleReads, hp, if_true] at e ⊢
      rw [e, ih]
    · simp only [State.idleReads, if_neg hp]

/-- Once the cycle has ended, idle reads change nothing. -/
theorem State.idleReads_ready {s : State} (h : s.phase = .ready) (n : Nat) : State.idleReads n s = s := by
  cases n <;> simp [State.idleReads, h]

/-- Empty answers laid down are idle reads. -/
theorem run_idle (n : Nat) (s : State) :
    Host.Core.run core n (s.reading (List.replicate n .empty)) = .next { State.idleReads n s with script := [] } := by
  induction n generalizing s with
  | zero => rfl
  | succ n ih =>
    have hs := step_reading (s := s.reading (List.replicate (n + 1) .empty)) (a := .empty)
      (rest := (List.replicate n ReadAnswer.empty).map .read) rfl
    rw [run_next n hs]
    cases hp : s.phase with
    | collect =>
      rw [State.runRead_collect (by exact hp)]
      have e := State.readStep_over_script s .empty ((List.replicate n ReadAnswer.empty).map .read)
      have e2 := ih (s.readStep .empty)
      simp only [State.reading] at e e2 ⊢
      rw [e, e2, State.idleReads, if_pos hp]
    | ready =>
      rw [State.runRead_ready_empty (by exact hp)]
      have e2 := ih s
      simp only [State.reading] at e2 ⊢
      rw [e2, State.idleReads_ready hp, State.idleReads_ready hp]

end Sys2Proof.Machine
end

