-- ==== Sys2Proof/Laws/Steps.lean ====
section
/-! SUPPORT. The moves one step can make, said once, and what the end of a cycle does to the session flags. -/

namespace Sys2Proof.Machine

/-- One step is one move on the state the input was taken from: a guarded command, a raw frame, a burst of the device, the
block's own step, an operation without a wire form, one read, or the external reset (R190, R250). -/
theorem step_moves {s t : State} (h : step s = .next t) :
    ∃ (l : List Input) (n : Nat) (a : TxAnswer), ∃ u : State,
      u = { s with script := l, envIdx := n, txAnswer := a } ∧
      ((∃ cmd frame, t = u.sendCommand cmd frame) ∨ (∃ opcode payload shape, t = sendRaw opcode payload shape u) ∨
        (∃ bs, t = u.burst bs) ∨ t = u.runQuiet ∨ (∃ o, s.nextInput = .localOp o ∧ t = u.runLocal o) ∨
        (∃ ans, t = u.runRead ans) ∨ (s.nextInput = .reset ∧ t = u.resetBlock)) := by
  have hti : ∃ l n, s.takeInput = { s with script := l, envIdx := n } := by
    unfold State.takeInput
    split
    · exact ⟨_, s.envIdx, rfl⟩
    · exact ⟨s.script, _, rfl⟩
  obtain ⟨l, n, e⟩ := hti
  rcases step_cases h with ⟨i, s1, h1, h2⟩ | h1
  · obtain ⟨a, rfl⟩ := State.fetch_run h1
    refine ⟨l, n, a, _, rfl, ?_⟩
    rw [e] at h2
    rcases exec_cases i (State.withTxAnswer { s with script := l, envIdx := n } a) with
      ⟨c, f, hh⟩ | ⟨o, p, sh, hh⟩ | ⟨bs, hh⟩ <;>
      rw [hh] at h2 <;> simp only [Host.Outcome.next.injEq] at h2 <;> subst h2
    · exact .inl ⟨c, f, rfl⟩
    · exact .inr (.inl ⟨o, p, sh, rfl⟩)
    · exact .inr (.inr (.inl ⟨bs, rfl⟩))
  · refine ⟨l, n, s.txAnswer, s.takeInput, e, ?_⟩
    unfold State.fetch at h1
    split at h1 <;> (try split at h1) <;> simp only [Fetched.moved.injEq, reduceCtorEq] at h1 <;> subst h1
    · exact .inr (.inr (.inr (.inl rfl)))
    · exact .inr (.inr (.inr (.inr (.inl ⟨_, ‹_›, rfl⟩))))
    · exact .inr (.inr (.inl ⟨_, rfl⟩))
    · exact .inr (.inr (.inr (.inr (.inr (.inl ⟨_, rfl⟩)))))
    · exact .inr (.inr (.inr (.inr (.inr (.inr ⟨‹_›, rfl⟩)))))

/-- The session flags at the end of a cycle (R197): kept, aborted by a fatal message, or an acquisition started. -/
theorem State.completeCycle_flags (s : State) :
    (s.completeCycle.acqActive = s.acqActive ∧ s.completeCycle.abortPending = s.abortPending) ∨
    (s.completeCycle.acqActive = false ∧ s.completeCycle.abortPending = true) ∨
    (s.cycleKind = .startCommand ∧ s.completeCycle.acqActive = true ∧
      s.completeCycle.abortPending = s.abortPending) := by
  unfold State.completeCycle
  simp only
  generalize s.classified = c
  cases hc : c.report <;> simp only [State.applyEffects, State.deliver]
  all_goals (try split)
  all_goals simp_all [State.abortSession]

/-- The error streams at the end of a cycle (R225): the outcome's failure, if it is one, on `ERROR_OUT` and in `LAST_ERR`. -/
theorem State.completeCycle_errors (s : State) :
    (∃ k i m, s.classified.report = .fail k i m ∧ s.completeCycle.errorOut = s.errorOut ++ [⟨k, i⟩] ∧
      s.completeCycle.lastErr = ⟨k.code, some i⟩) ∨
    (failsOf [s.classified.report] = [] ∧ s.completeCycle.errorOut = s.errorOut ∧
      s.completeCycle.lastErr = s.lastErr) := by
  unfold State.completeCycle
  simp only
  generalize s.classified = c
  cases hc : c.report <;> simp only [State.applyEffects, State.deliver]
  all_goals (try split)
  all_goals simp [State.abortSession, failsOf]

end Sys2Proof.Machine
end

