-- ==== Sys2Proof/Tests/Slice0.lean ====
section
/-! SUPPORT. Small checks of the model against the spec's own examples (spec/95_test_vectors.md: each test names its vector), and
for every statement with hypotheses a concrete state and operands that meet them. -/

namespace Sys2Proof.Tests

open Sys2Proof.Machine

/-! ## Helpers -/

/-- The sweep of vectors S5 and CS2. -/
def cs2 : SweepSpec :=
  { startFreq := 0x43FA0000, stopFreq := 0x461C4000, steps := 100, scale := .linear, precision := 0x40400000,
    amplitude := 0x38D1B717, excitation := .current, pointDelayUs := 1000, phaseSync := false }

/-- A logarithmic sweep between two patterns. -/
def logSweep (a b : F32) : SweepSpec :=
  { cs2 with startFreq := a, stopFreq := b, scale := .logarithmic }

/-- A cycle that has just started in the reset state. -/
def cycle (kind : CycleKind) (expect : Option Byte) (shape : ReplyShape) : State :=
  State.reset.startCycle kind expect shape

/-- A sample cycle under a reply format. -/
def sampling (ts : TsMode) (cr : CrMode) : State :=
  { cycle .command (some 0xB8) .samples with tsMode := ts, crMode := cr }

/-- The newest outcome. -/
def lastReport (o : Host.Outcome State Fault Refusal) : Option Report :=
  match o with
  | .next s => s.resultOut.getLast?
  | .fault _ | .refused _ => none

/-- The newest frame written. -/
def lastFrame (o : Host.Outcome State Fault Refusal) : Option Bytes :=
  match o with
  | .next s => s.txOut.getLast?
  | .fault _ | .refused _ => none

/-- The newest sample. -/
def lastSample (o : Host.Outcome State Fault Refusal) : Option Sample :=
  match o with
  | .next s => s.sampleOut.getLast?
  | .fault _ | .refused _ => none

/-- All samples emitted. -/
def samplesOf (o : Host.Outcome State Fault Refusal) : List Sample :=
  match o with
  | .next s => s.sampleOut
  | .fault _ | .refused _ => []

/-- The payload of vector MD1 with another point number. -/
def point (k : Byte) : Bytes :=
  [0, k, 0x42, 0x48, 0x00, 0x00, 0xC0, 0x20, 0x00, 0x00]

/-- The sample of vector MD1 with another point number. -/
def pointSample (k : BitVec 16) : Sample :=
  ⟨k, none, none, 0x42480000, 0xC0200000⟩

/-- `ACQ_ACTIVE`, `ABORT_PENDING` and the code of `LAST_ERR` of a next state. -/
def flags (o : Host.Outcome State Fault Refusal) : Option (Bool × Bool × Fin 12) :=
  match o with
  | .next s => some (s.acqActive, s.abortPending, s.lastErr.code)
  | .fault _ | .refused _ => none

/-! ## WellFormed refuses what the rules refuse -/

theorem test_wf_accepts : (Instr.addFreqList cs2).wellFormed {} = true := by decide
/-- CS4 -/
theorem test_wf_no_steps : (Instr.addFreqList { cs2 with steps := 0 }).wellFormed {} = false := by decide
theorem test_wf_steps_range : (Instr.addFreqList { cs2 with steps := 2 ^ 32 }).wellFormed {} = false := by decide
theorem test_wf_delay_range : (Instr.addFreqList { cs2 with pointDelayUs := 2 ^ 32 }).wellFormed {} = false := by decide
/-- CS5, CS6, CS8 -/
theorem test_wf_log_order : (Instr.addFreqList (logSweep 0x461C4000 0x43FA0000)).wellFormed {} = false ∧
    (Instr.addFreqList (logSweep 0x7FC00000 0x461C4000)).wellFormed {} = false ∧
    (Instr.addFreqList (logSweep 0x43FA0000 0x43FA0000)).wellFormed {} = true := by decide
/-- CS12 -/
theorem test_wf_repeat : (Instr.startMeas 65536).wellFormed {} = false := by decide
/-- CS16 -/
theorem test_wf_row : (Instr.getFreqPoint 65536).wellFormed {} = false := by decide
/-- SE10 -/
theorem test_wf_raw_size : (Instr.frame (.send .bytes) 0xB7 (List.replicate 253 0)).wellFormed {} = false := by
  simp only [Instr.wellFormed, List.length_replicate]; decide
/-- SE9 -/
theorem test_wf_raw_opcode : (Instr.frame (.send .bytes) 0x18 [0x83]).wellFormed {} = false := by decide
theorem test_wf_received_size : (Instr.frame .receive 0xB7 (List.replicate 256 0)).wellFormed {} = false := by
  simp only [Instr.wellFormed, List.length_replicate]; decide
theorem test_canonical : (Instr.frame (.send .bytes) 0xB8 [0x00]).canonical {} (.host .bytes) = false ∧
    (Instr.sysGeneric 0x83).canonical {} (.device .off .absent) = false ∧
    (Instr.sampleUs5Absent 0 0 0 0).canonical {} (.device .ms4 .present) = false ∧
    (Instr.initSetup).canonical {} (.device .off .absent) = false := by decide

/-! ## Decode: each constructor from a word written out from R66 to R71, R75 -/

/-- CS1 -/
theorem test_decode_init_setup :
    decode {} (.host .bytes) [0xB6, 0x02, 0x01, 0x01, 0xB6] = .ok .initSetup := by decide
/-- CS2 -/
theorem test_decode_add_freq_list :
    decode {} (.host .bytes) [0xB6, 0x25, 0x03, 0x43, 0xFA, 0x00, 0x00, 0x46, 0x1C, 0x40, 0x00, 0x00, 0x00, 0x00, 0x64,
      0x00, 0x40, 0x40, 0x00, 0x00, 0x38, 0xD1, 0xB7, 0x17, 0x01, 0x00, 0x00, 0x03, 0xE8, 0x02, 0x00, 0x00, 0x00, 0x00,
      0x03, 0x00, 0x00, 0x00, 0x01, 0xB6] = .ok (.addFreqList cs2) := by decide
/-- CS11, CS13, CS14 -/
theorem test_decode_measurement :
    decode {} (.host .bytes) [0xB8, 0x04, 0x01, 0x00, 0x34, 0x12, 0xB8] = .ok (.startMeas 0x1234) ∧
    decode {} (.host .bytes) [0xB8, 0x01, 0x00, 0xB8] = .ok .stopMeas ∧
    decode {} (.host .bytes) [0xB7, 0x01, 0x01, 0xB7] = .ok .getNumFreq := by decide
/-- CS15, CS17, CS18 -/
theorem test_decode_queries :
    decode {} (.host .bytes) [0xB7, 0x03, 0x02, 0x01, 0x18, 0xB7] = .ok (.getFreqPoint 0x0118) ∧
    decode {} (.host .bytes) [0xB7, 0x01, 0x04, 0xB7] = .ok .getFreqList ∧
    decode {} (.host .bytes) [0xD1, 0x00, 0xD1] = .ok .getDeviceId ∧
    decode { queryPad := true } (.host .bytes) [0xD1, 0x00, 0x00, 0xD1] = .ok .getDeviceId := by decide
/-- FB3 on either port -/
theorem test_decode_frame :
    decode {} (.host .uint) [0xB7, 0x02, 0xB7, 0x18, 0xB7] = .ok (.frame (.send .uint) 0xB7 [0xB7, 0x18]) ∧
    decode {} (.device .off .absent) [0xB7, 0x02, 0xB7, 0x18, 0xB7] = .ok (.frame .receive 0xB7 [0xB7, 0x18]) := by
  decide
/-- S12 -/
theorem test_decode_messages :
    [0x01, 0x02, 0x04, 0x11, 0x81, 0x82].map (fun c => decode {} (.device .off .absent) [0x18, 0x01, c, 0x18]) =
      [.ok .sysFrameNotAcknowledge, .ok .sysTimeout, .ok .sysWakeUp, .ok .sysTcpSocketValid,
        .ok .sysNotAcknowledgeNotExecuted, .ok .sysNotAcknowledgeUnrecognized] ∧
    [0x83, 0x84, 0x90, 0x91, 0x92, 0x77].map (fun c => decode {} (.device .off .absent) [0x18, 0x01, c, 0x18]) =
      [.ok .sysCommandAcknowledge, .ok .sysSystemReady, .ok .sysOvercurrent, .ok .sysOvervoltage, .ok .sysDataHoldup,
        .ok (.sysGeneric 0x77)] := by decide
/-- MD1, MD2, MD3 -/
theorem test_decode_short_samples :
    decode {} (.device .off .absent) [0xB8, 0x0A, 0x00, 0x00, 0x42, 0x48, 0x00, 0x00, 0xC0, 0x20, 0x00, 0x00, 0xB8] =
      .ok (.sampleNoneAbsent 0 0x42480000 0xC0200000) ∧
    decode {} (.device .off .present) [0xB8, 0x0B, 0x00, 0x07, 0x02, 0x42, 0x48, 0x00, 0x00, 0xC0, 0x20, 0x00, 0x00,
      0xB8] = .ok (.sampleNonePresent 7 2 0x42480000 0xC0200000) ∧
    decode {} (.device .ms4 .absent) [0xB8, 0x0E, 0x01, 0x18, 0x18, 0x18, 0x18, 0x18, 0x3F, 0x80, 0x00, 0x00, 0x3F, 0x80,
      0x00, 0x00, 0xB8] = .ok (.sampleMs4Absent 0x0118 0x18181818 0x3F800000 0x3F800000) := by decide
/-- MD4, MD5, MD6 -/
theorem test_decode_long_samples :
    decode {} (.device .ms4 .present) [0xB8, 0x0F, 0x00, 0x01, 0x00, 0x00, 0x03, 0xE8, 0x02, 0x3F, 0x80, 0x00, 0x00, 0x40,
      0x40, 0x00, 0x00, 0xB8] = .ok (.sampleMs4Present 1 1000 2 0x3F800000 0x40400000) ∧
    decode {} (.device .us5 .absent) [0xB8, 0x0F, 0x00, 0x18, 0x01, 0x02, 0x03, 0x04, 0x05, 0x38, 0xD1, 0xB7, 0x17, 0x00,
      0x00, 0x00, 0x00, 0xB8] = .ok (.sampleUs5Absent 0x0018 0x0102030405 0x38D1B717 0) ∧
    decode {} (.device .us5 .present) [0xB8, 0x10, 0x00, 0x02, 0x01, 0x02, 0x03, 0x04, 0x05, 0x03, 0x43, 0xFA, 0x00, 0x00,
      0x46, 0x1C, 0x40, 0x00, 0xB8] = .ok (.sampleUs5Present 2 0x0102030405 3 0x43FA0000 0x461C4000) := by decide
theorem test_decode_rejects :
    decode {} (.host .bytes) [0xB7, 0xB7] = .error .tooShort ∧
    decode {} (.host .bytes) [0xB7, 0x02, 0x05, 0xB7] = .error .lengthMismatch ∧
    decode {} (.host .bytes) [0xB7, 0x01, 0x05, 0xB6] = .error .trailMismatch := by decide
/-- The table's own `match` numbers: STOP_MEAS, SYS_Overcurrent, SYS_GENERIC, SAMPLE_NONE_PRESENT, START_MEAS. -/
theorem test_table_words :
    decodeTableWord 32 0xB80100B8 = some .stopMeas ∧ decodeTableWord 32 0x18019018 = some .sysOvercurrent ∧
    decodeTableWord 32 0x18010018 = some (.sysGeneric 0) ∧
    decodeTableWord 112 0xB80B0000000000000000000000B8 = some (.sampleNonePresent 0 0 0 0) ∧
    decodeTableWord 56 0xB80401003412B8 = some (.startMeas 0x1234) := by decide

/-! ## Single operations -/

/-- A block with another command table, another message table and another identity layout (R37). -/
def otherTables : Config :=
  { cmdTable := { getNumFreq := ⟨0xB9, some 0x07, [0x55], .bytes⟩, stopMeas := ⟨0xB8, some 0x02, [], .bytes⟩ }
    msgTable := { wakeUp := 0x84, systemReady := 0x04 }
    devId := { versionAt := 8, deviceIdHighAt := 1, deviceIdLowAt := 0, middleAt := 2, middleSize := 6, serialHighAt := 4,
               serialLowAt := 0, yearAt := 1, monthAt := 5 } }

/-- The parameters decide the bytes of a command, its row, and the name of a code. -/
theorem test_other_tables :
    otherTables.legal = true ∧
    encode otherTables .getNumFreq = [0xB9, 0x02, 0x07, 0x55, 0xB9] ∧
    decode otherTables (.host .bytes) [0xB9, 0x02, 0x07, 0x55, 0xB9] = .ok .getNumFreq ∧
    decode otherTables (.host .bytes) [0xB7, 0x01, 0x01, 0xB7] = .ok (.frame (.send .bytes) 0xB7 [0x01]) ∧
    decode otherTables (.device .off .absent) [0x18, 0x01, 0x04, 0x18] = .ok .sysSystemReady := by decide

/-- A layout with five middle bytes. -/
def oddLayout : DevIdLayout :=
  { versionAt := 0, deviceIdHighAt := 1, deviceIdLowAt := 2, middleAt := 3, middleSize := 5, serialHighAt := 2,
    serialLowAt := 1, yearAt := 0, monthAt := 4 }

/-- R170 by hand (CS30): the middle bytes 13 to 17 become 13, 15 14, 17 16; seven bytes are too few. -/
theorem test_odd_layout :
    oddLayout.legal = true ∧
    decodeDeviceId oddLayout [10, 11, 12, 13, 14, 15, 16, 17] =
      .ok (.deviceId ⟨10, 11 * 256 + 12, 14 * 256 + 15, 13, 16⟩) ∧
    decodeDeviceId oddLayout [10, 11, 12, 13, 14, 15, 16] = .error ⟨.malformedFrame, .fieldShort⟩ := by decide

/-- R170 by hand: the pairs of the middle bytes 12 to 17 exchanged are 13 12 15 14 17 16. -/
theorem test_other_layout :
    decodeDeviceId otherTables.devId [10, 11, 12, 13, 14, 15, 16, 17, 18] =
      .ok (.deviceId ⟨18, 11 * 256 + 10, 17 * 256 + 13, 12, 16⟩) := by decide

/-- R79: the frames the pseudo-operations stand for. -/
theorem test_pseudo_operations :
    [PseudoOp.query 0xD1, .stopMeas, .startContinuous, .getSetup .numFreq, .getSetup .freqList].map
      (fun o => encode {} o.expand) =
      [[0xD1, 0x00, 0xD1], [0xB8, 0x01, 0x00, 0xB8], [0xB8, 0x04, 0x01, 0x00, 0x00, 0x00, 0xB8], [0xB7, 0x01, 0x01, 0xB7],
        [0xB7, 0x01, 0x04, 0xB7]] := by decide

/-- S2, FB6 -/
theorem test_build : build 0xD1 [] = .ok [0xD1, 0x00, 0xD1] ∧ build 0x18 [0x83] = .ok [0x18, 0x01, 0x83, 0x18] := by
  decide
/-- FB10, FB11, FB14 -/
theorem test_parse_errors :
    parseFrames [0xB7, 0x02, 0x05, 0xB7] 0xB7 = .err ⟨.malformedFrame, .truncated⟩ ∧
    parseFrames [0xB7, 0x01, 0x05, 0xB6] 0xB7 = .err ⟨.malformedFrame, .trailMismatch⟩ ∧
    parseFrames [0xB7, 0x01, 0x05, 0xB7, 0xB7, 0x01, 0x06, 0xB6] 0xB7 =
      .err ⟨.incompleteMultiFrameReply, .trailMismatch⟩ := by decide
/-- SC4, SC13, SC14, SC15, SC16 -/
theorem test_scan_corners :
    (scan {} [0x18, 0x18, 0x01, 0x83, 0x18]).verdict = .malformed ∧
    (scan {} [0x18, 0x01, 0x83, 0x55, 0x18]).verdict = .messages [⟨0x83, .commandAcknowledge⟩] ∧
    (scan {} [0x18, 0x01, 0x83, 0x18, 0x01, 0x84, 0x18]).verdict = .messages [⟨0x83, .commandAcknowledge⟩] ∧
    (scan {} [0x18, 0x01, 0x83, 0x18, 0x18, 0x01, 0x90]).verdict = .messages [⟨0x83, .commandAcknowledge⟩] ∧
    (scan {} [0x18, 0x02, 0x83, 0x18]).verdict = .malformed := by decide
/-- CL13, CL14, CL15 -/
theorem test_priority :
    evaluate [⟨0x82, .notAcknowledgeUnrecognized⟩, ⟨0x81, .notAcknowledgeNotExecuted⟩] =
      .fail .unrecognizedCommand .deviceNack
        [⟨0x82, .notAcknowledgeUnrecognized⟩, ⟨0x81, .notAcknowledgeNotExecuted⟩] ∧
    evaluate [⟨0x83, .commandAcknowledge⟩, ⟨0x77, .unknown⟩] =
      .fail .malformedFrame (.unknownSysCode 0x77) [⟨0x83, .commandAcknowledge⟩, ⟨0x77, .unknown⟩] ∧
    evaluate [⟨0x77, .unknown⟩, ⟨0x91, .overvoltage⟩] =
      .fail .overvoltage .deviceFault [⟨0x77, .unknown⟩, ⟨0x91, .overvoltage⟩] := by decide
/-- CS30 -/
theorem test_double_reversal :
    doubleReversal [0x12, 0x34, 0x56, 0x78] = [[0x34, 0x12], [0x78, 0x56]] ∧
    doubleReversal [0x01, 0x02, 0x03, 0x04, 0x05] = [[0x01], [0x03, 0x02], [0x05, 0x04]] := by decide

/-! ## One step of each row -/

/-- CS1, CS19 -/
theorem test_init_setup : lastFrame (exec .initSetup State.reset) = some [0xB6, 0x02, 0x01, 0x01, 0xB6] ∧
    lastFrame (exec .initSetup { State.reset with cfg := { initSetupArgs := [] } }) = some [0xB6, 0x01, 0x01, 0xB6] := by
  decide
/-- CS2 -/
theorem test_add_freq_list : lastFrame (exec (.addFreqList cs2) State.reset) =
    some [0xB6, 0x25, 0x03, 0x43, 0xFA, 0x00, 0x00, 0x46, 0x1C, 0x40, 0x00, 0x00, 0x00, 0x00, 0x64, 0x00, 0x40, 0x40, 0x00,
      0x00, 0x38, 0xD1, 0xB7, 0x17, 0x01, 0x00, 0x00, 0x03, 0xE8, 0x02, 0x00, 0x00, 0x00, 0x00, 0x03, 0x00, 0x00, 0x00, 0x01,
      0xB6] := by decide
/-- CS4 -/
theorem test_add_freq_list_no_steps : lastReport (exec (.addFreqList { cs2 with steps := 0 }) State.reset) =
    some (.fail .payloadOutOfRange .steps []) := by decide
/-- CS11, CS12 -/
theorem test_start_meas : lastFrame (exec (.startMeas 0x1234) State.reset) =
      some [0xB8, 0x04, 0x01, 0x00, 0x34, 0x12, 0xB8] ∧
    lastReport (exec (.startMeas 65536) State.reset) = some (.fail .payloadOutOfRange (.range 65536 2) []) := by decide
/-- SE5, SE6 -/
theorem test_stop_meas :
    flags (exec .stopMeas { State.reset with acqActive := true }) = some (false, false, 0) ∧
    flags (exec .stopMeas { State.reset with acqActive := true, txAnswer := .fail }) = some (true, false, 11) := by decide
/-- CS14, SE2, SE4 -/
theorem test_get_num_freq : lastFrame (exec .getNumFreq State.reset) = some [0xB7, 0x01, 0x01, 0xB7] ∧
    lastReport (exec .getNumFreq { State.reset with acqActive := true }) = some (.refused .acqActive) ∧
    lastReport (exec .getNumFreq { State.reset with abortPending := true }) = some (.refused .abortPending) := by decide
/-- CS15, CS16 -/
theorem test_get_freq_point : lastFrame (exec (.getFreqPoint 5) State.reset) = some [0xB7, 0x03, 0x02, 0x00, 0x05, 0xB7] ∧
    lastReport (exec (.getFreqPoint 65536) State.reset) = some (.fail .payloadOutOfRange (.range 65536 2) []) := by decide
/-- CS17 -/
theorem test_get_freq_list : lastFrame (exec .getFreqList State.reset) = some [0xB7, 0x01, 0x04, 0xB7] := by decide
/-- CS18 -/
theorem test_get_device_id : lastFrame (exec .getDeviceId State.reset) = some [0xD1, 0x00, 0xD1] ∧
    lastFrame (exec .getDeviceId { State.reset with cfg := { queryPad := true } }) = some [0xD1, 0x00, 0x00, 0xD1] := by
  decide
/-- SE9, program P4 step 8 -/
theorem test_send_raw : lastReport (exec (.frame (.send .bytes) 0x18 [0x83]) State.reset) = some (.refused .reservedOpcode) ∧
    lastReport (exec (.frame (.send .bytes) 0xB0 [0x01, 0x02]) { State.reset with txAnswer := .fail }) =
      some (.fail .transportError .write []) := by decide
/-- CL24, CL22 -/
theorem test_received_frame :
    lastReport (exec (.frame .receive 0xB7 [0x18]) (cycle .command (some 0xB7) .uint)) = some (.data (.uint 24) []) ∧
    lastReport (exec (.frame .receive 0xB7 [0x05]) (cycle .command (some 0xB6) .bytes)) =
      some (.fail .malformedFrame .leadMismatch []) := by decide
/-- CS9, CS24 -/
theorem test_received_replies :
    lastReport (exec (.frame .receive 0xD1 [0x01, 0x00, 0x2A, 0x34, 0x12, 0x03, 0x17]) (cycle .command (some 0xD1) .deviceId)) =
      some (.data (.deviceId ⟨1, 42, 0x1234, 0x17, 3⟩) []) ∧
    lastReport (exec (.frame .receive 0xB7 [0x43, 0xFA, 0x00, 0x00, 0x46, 0x1C, 0x40, 0x00])
      (cycle .command (some 0xB7) .floatList)) = some (.data (.floatList [0x43FA0000, 0x461C4000]) []) := by decide
/-- CL1, CL2, CL5, CL6 -/
theorem test_nacks :
    [Instr.sysFrameNotAcknowledge, .sysTimeout, .sysNotAcknowledgeNotExecuted, .sysNotAcknowledgeUnrecognized].map
      (fun i => flags (exec i (cycle .command (some 0xB6) .bytes))) =
      [some (false, false, 1), some (false, false, 2), some (false, false, 4), some (false, false, 3)] := by decide
/-- CL3, CL4, CL8 -/
theorem test_notices :
    [Instr.sysWakeUp, .sysTcpSocketValid, .sysSystemReady].map
      (fun i => lastReport (exec i (cycle .listen none .bytes))) =
      [some (.notice [⟨0x04, .wakeUp⟩]), some (.notice [⟨0x11, .tcpSocketValid⟩]),
        some (.notice [⟨0x84, .systemReady⟩])] := by decide
/-- CL7, program P3 step 3 -/
theorem test_ack :
    flags (exec .sysCommandAcknowledge (cycle .command (some 0xB6) .bytes)) = some (false, false, 0) ∧
    flags (exec .sysCommandAcknowledge (cycle .startCommand (some 0xB8) .samples)) = some (true, false, 0) := by decide
/-- CL9, CL10, CL11 -/
theorem test_fatals :
    [Instr.sysOvercurrent, .sysOvervoltage, .sysDataHoldup].map
      (fun i => flags (exec i { cycle .acquisition (some 0xB8) .samples with acqActive := true })) =
      [some (false, true, 5), some (false, true, 6), some (false, true, 7)] := by decide
/-- SC11, SC12 -/
theorem test_unknown_codes :
    lastReport (exec (.sysGeneric 0x77) (cycle .command (some 0xB6) .bytes)) =
      some (.fail .malformedFrame (.unknownSysCode 0x77) [⟨0x77, .unknown⟩]) ∧
    lastReport (exec (.sysGeneric 0x18) (cycle .command (some 0xB6) .bytes)) =
      some (.fail .malformedFrame (.unknownSysCode 0x18) [⟨0x18, .unknown⟩]) := by decide
/-- MD1, MD9, MD10 -/
theorem test_sample_none_absent :
    lastSample (exec (.sampleNoneAbsent 0 0x42480000 0xC0200000) (sampling .off .absent)) =
      some ⟨0, none, none, 0x42480000, 0xC0200000⟩ ∧
    lastReport (exec (.sampleNoneAbsent 0 0x42480000 0xC0200000) (sampling .ms4 .absent)) =
      some (.fail .malformedFrame .sampleLength []) ∧
    lastReport (exec (.sampleNoneAbsent 0 0x42480000 0xC0200000) (sampling .unset .unset)) =
      some (.fail .malformedFrame .formatUnset []) := by decide
/-- MD2, MD3 -/
theorem test_sample_short :
    lastSample (exec (.sampleNonePresent 7 2 0x42480000 0xC0200000) (sampling .off .present)) =
      some ⟨7, none, some 2, 0x42480000, 0xC0200000⟩ ∧
    lastSample (exec (.sampleMs4Absent 0x0118 0x18181818 0x3F800000 0x3F800000) (sampling .ms4 .absent)) =
      some ⟨0x0118, some 0x18181818, none, 0x3F800000, 0x3F800000⟩ := by decide
/-- MD4, MD7 -/
theorem test_sample_ms4_present :
    lastSample (exec (.sampleMs4Present 1 1000 2 0x3F800000 0x40400000) (sampling .ms4 .present)) =
      some ⟨1, some 1000, some 2, 0x3F800000, 0x40400000⟩ ∧
    lastSample (exec (.sampleMs4Present 1 1000 2 0x3F800000 0x40400000) (sampling .us5 .absent)) =
      some ⟨1, some 0x000003E802, none, 0x3F800000, 0x40400000⟩ := by decide
/-- MD5, MD8 -/
theorem test_sample_us5_absent :
    lastSample (exec (.sampleUs5Absent 0x0018 0x0102030405 0x38D1B717 0) (sampling .us5 .absent)) =
      some ⟨0x0018, some 0x0102030405, none, 0x38D1B717, 0⟩ ∧
    lastSample (exec (.sampleUs5Absent 0x0018 0x0102030405 0x38D1B717 0) (sampling .ms4 .present)) =
      some ⟨0x0018, some 0x01020304, some 5, 0x38D1B717, 0⟩ := by decide
/-- MD6 -/
theorem test_sample_us5_present :
    lastSample (exec (.sampleUs5Present 2 0x0102030405 3 0x43FA0000 0x461C4000) (sampling .us5 .present)) =
      some ⟨2, some 0x0102030405, some 3, 0x43FA0000, 0x461C4000⟩ := by decide

/-! ## One step of the session -/

/-- SE1, SE3, SE7, SE8, SE11, SE12 -/
theorem test_local_operations :
    (State.readStatus (cycle .command (some 0xB6) .bytes)).resultOut = [.refused .busy] ∧
    (State.listen { State.reset with abortPending := true }).phase = .collect ∧
    (State.reset.setIdleThreshold 256).resultOut = [.refused .badValue] ∧
    (State.reset.setIdleThreshold 3).idleThreshold = 3 ∧
    (State.acknowledge { State.reset with abortPending := true, lastErr := ⟨5, some .deviceFault⟩ }).lastErr = ⟨0, none⟩ ∧
    State.reset.readStatus.resultOut = [.status false false ⟨0, none⟩ 1 .unset .unset] := by decide
/-- SE18, SE19 -/
theorem test_read_failure :
    (({ cycle .acquisition (some 0xB8) .samples with acqActive := true } : State).readStep .fail).abortPending = true ∧
    ((cycle .command (some 0xB6) .bytes).readStep .fail).abortPending = false := by decide
/-- FR8 -/
theorem test_overflow :
    let s := ({ cycle .command (some 0xB7) .bytes with cfg := { rxbufMax := 8 } } : State)
    (((s.readStep (.data [0xB7, 0x06, 1, 2, 3, 4])).readStep (.data [5, 6, 0xB7, 0xAA])).readStep .empty).rxbuf =
      [0xB7, 0x06, 1, 2, 3, 4, 5, 6] ∧
    (((s.readStep (.data [0xB7, 0x06, 1, 2, 3, 4])).readStep (.data [5, 6, 0xB7, 0xAA])).readStep .empty).lastErr =
      ⟨1, some .overflow⟩ := by decide
/-- MD11, MD12: bursts of two and of three sample frames. -/
theorem test_sample_bursts :
    let two := step { sampling .off .absent with script := [.device (framesOf 0xB8 [point 0, point 1])] }
    let three := step { sampling .off .absent with script := [.device (framesOf 0xB8 [point 0, 0 :: point 1, point 2])] }
    samplesOf two = [pointSample 0, pointSample 1] ∧
    lastReport two = some (.data (.samples [pointSample 0, pointSample 1]) []) ∧
    samplesOf three = [pointSample 0] ∧ lastReport three = some (.fail .malformedFrame .sampleLength []) := by decide
/-- CL28 -/
theorem test_sample_and_fatal_message :
    let s : State := { cycle .acquisition (some 0xB8) .samples with
      acqActive := true, tsMode := .off, crMode := .absent,
      script := [.device (framesOf 0xB8 [point 0] ++ [0x18, 0x01, 0x90, 0x18])] }
    let mixed := step { s with cfg := { mixedBurst := .framesThenMessages } }
    (lastReport (step s) = some (.fail .malformedFrame .trailingBytes []) ∧ samplesOf (step s) = [] ∧
      flags (step s) = some (true, false, 1)) ∧
    (lastReport mixed = some (.fail .overcurrent .deviceFault [⟨0x90, .overcurrent⟩]) ∧
      samplesOf mixed = [pointSample 0] ∧ flags mixed = some (false, true, 5)) := by decide
/-- Program P4 step 7: two replies of one byte become one number. -/
theorem test_joined_replies :
    lastReport (step { cycle .command (some 0xB7) .uint with script := [.device (framesOf 0xB7 [[0x05], [0x05]])] }) =
      some (.data (.uint 1285) []) := by decide
/-- CL12, CL13, CL16, and R144's last row: what several messages in one burst come to, and a message before frames. -/
theorem test_several_messages :
    let on := fun (s : State) (bs : Bytes) => step { s with script := [.device bs] }
    lastReport (on (cycle .startCommand (some 0xB8) .samples) [0x18, 0x01, 0x83, 0x18, 0x18, 0x01, 0x90, 0x18]) =
      some (.fail .overcurrent .deviceFault [⟨0x83, .commandAcknowledge⟩, ⟨0x90, .overcurrent⟩]) ∧
    flags (on (cycle .startCommand (some 0xB8) .samples) [0x18, 0x01, 0x83, 0x18, 0x18, 0x01, 0x90, 0x18]) =
      some (false, true, 5) ∧
    lastReport (on (cycle .command (some 0xB6) .bytes) [0x18, 0x01, 0x82, 0x18, 0x18, 0x01, 0x81, 0x18]) =
      some (.fail .unrecognizedCommand .deviceNack
        [⟨0x82, .notAcknowledgeUnrecognized⟩, ⟨0x81, .notAcknowledgeNotExecuted⟩]) ∧
    lastReport (on (cycle .listen none .bytes) [0x18, 0x01, 0x04, 0x18, 0x18, 0x01, 0x84, 0x18]) =
      some (.notice [⟨0x04, .wakeUp⟩, ⟨0x84, .systemReady⟩]) ∧
    lastReport (on (sampling .off .absent) ([0x18, 0x01, 0x83, 0x18] ++ framesOf 0xB8 [point 0])) =
      some (.ack [⟨0x83, .commandAcknowledge⟩]) ∧
    samplesOf (on (sampling .off .absent) ([0x18, 0x01, 0x83, 0x18] ++ framesOf 0xB8 [point 0])) = [] := by decide
/-- R200: what the formats write. -/
theorem test_reply_formats :
    ([TsFormat.off, .ms4, .us5].map fun ts => (State.reset.setReplyFormat ts .absent).tsMode) = [.off, .ms4, .us5] ∧
    ([CrFormat.absent, .present].map fun cr => (State.reset.setReplyFormat .ms4 cr).crMode) = [.absent, .present] := by decide
/-- EX5, the code of a reply that breaks off in its second frame. -/
theorem test_incomplete_reply :
    flags (step { cycle .command (some 0xB7) .uint with script := [.device [0xB7, 0x01, 0x05, 0xB7, 0xB7]] }) =
      some (false, false, 8) := by decide
/-- The word of STOP_MEAS is fetched and run first after reset. -/
theorem test_fetch_word : lastFrame (step (State.reset.withFetchWord 32 0xB80100B8)) = some [0xB8, 0x01, 0x00, 0xB8] := by
  decide
/-- A device's word arrives while no cycle runs and waits in the transport. -/
theorem test_fetch_message :
    step (State.reset.withFetchWord 32 0x18019018) =
      .next { State.reset with waiting := [0x18, 0x01, 0x90, 0x18] } := rfl

/-! ## Witnesses: for each statement with hypotheses, a state and operands that meet them, each clause at a boundary -/

/-- A state in which every field the hypotheses speak of is at its reset value. -/
abbrev ready : State := State.reset

theorem witness_decoding_gives_back :
    (({} : Config).legal = true ∧ (Instr.addFreqList cs2).wellFormed {} = true ∧
      (Instr.addFreqList cs2).canonical {} (.host .uint) = true) ∧
    ((Instr.sampleUs5Absent 0 0 0 0).wellFormed {} = true ∧
      (Instr.sampleUs5Absent 0 0 0 0).canonical {} (.device .us5 .absent) = true) ∧
    ((Instr.frame (.send .bytes) 0xB0 []).wellFormed {} = true ∧
      (Instr.frame (.send .bytes) 0xB0 []).canonical {} (.host .bytes) = true) := by decide

theorem witness_decoded_encodes : decode {} (.device .unset .unset) [0x18, 0x01, 0x00, 0x18] = .ok (.sysGeneric 0) := by
  decide

theorem witness_step_runs :
    (∃ rest, ({ ready with script := [.op .initSetup .ok] } : State).script = .op .initSetup .ok :: rest ∧
      ready = { ({ ready with script := [.op .initSetup .ok] } : State) with script := rest }) ∧
    (ready.script = [] ∧ ∃ s1 : State, s1 = { ready with envIdx := ready.envIdx + 1 }) ∧
    (({ ready with script := [.host [0xD1, 0x00, 0xD1] .bytes .fail] } : State).script =
      .host [0xD1, 0x00, 0xD1] .bytes .fail :: [] ∧ decode ready.cfg (.host .bytes) [0xD1, 0x00, 0xD1] = .ok .getDeviceId) ∧
    (({ ready with script := [.device [0x18, 0x01, 0x83, 0x18]] } : State).script = .device [0x18, 0x01, 0x83, 0x18] :: [] ∧
      decode ready.cfg (.device ready.tsMode ready.crMode) [0x18, 0x01, 0x83, 0x18] = .ok .sysCommandAcknowledge) := by
  refine ⟨⟨[], by decide, by decide⟩, ⟨by decide, _, rfl⟩, ?_⟩
  decide

theorem witness_accepted_operation :
    (ready.cfg.legal = true ∧ ready.phase = .ready ∧ ready.abortPending = false ∧ ready.txAnswer = .ok ∧
      ready.acqActive = false ∧ (Instr.startMeas 65535).fromDevice = false ∧
      (Instr.startMeas 65535).wellFormed ready.cfg = true ∧ catalogueCommand (.startMeas 65535) = some .startMeas) ∧
    (({ ready with acqActive := true, cfg := otherTables } : State).cfg.legal = true ∧
      ({ ready with acqActive := true, cfg := otherTables } : State).phase = .ready ∧
      (Instr.stopMeas).wellFormed otherTables = true) ∧
    (Instr.frame (.send .uint) 0x17 []).wellFormed ready.cfg = true := by decide

theorem witness_device_item :
    (Instr.sysWakeUp).fromDevice = true ∧
    ({ ready with script := [.device [0x55]] } : State).script = .device [0x55] :: [] := by decide

theorem witness_init_setup :
    ready.cfg.cmdTable = {} ∧ (ready.CanSend ∧ ready.cfg.initSetupArgs = [0x01]) ∧
    (({ ready with cfg := { initSetupArgs := [] } } : State).CanSend ∧
      ({ ready with cfg := { initSetupArgs := [] } } : State).cfg.initSetupArgs = []) := by decide

theorem witness_add_freq_list :
    ready.CanSend ∧ ready.cfg.cmdTable = {} ∧
    ({ cs2 with steps := 1, pointDelayUs := 2 ^ 32 - 1 } : SweepSpec).legal = true ∧
    ({ cs2 with steps := 2 ^ 32 - 1 } : SweepSpec).legal = true := by decide

theorem witness_start_meas : ready.CanSend ∧ ready.cfg.cmdTable = {} ∧ 65535 < 65536 := by decide

theorem witness_stop_meas :
    ready.phase = .ready ∧ ready.abortPending = false ∧ ready.txAnswer = .ok ∧ ready.cfg.cmdTable = {} := by decide

theorem witness_queries :
    ready.cfg.cmdTable = {} ∧ (ready.CanSend ∧ ready.cfg.queryPad = false) ∧
    (({ ready with cfg := { queryPad := true } } : State).CanSend ∧
      ({ ready with cfg := { queryPad := true } } : State).cfg.queryPad = true) := by decide

theorem witness_get_freq_point :
    ready.cfg.cmdTable = {} ∧ ({ rowWidth := 1 } : Config).cmdTable = {} ∧ ({ rowWidth := 4 } : Config).cmdTable = {} ∧
    (({ ready with cfg := { rowWidth := 1 } } : State).CanSend ∧
      ({ ready with cfg := { rowWidth := 1 } } : State).cfg.rowWidth = 1 ∧ 255 < 256) ∧
    (ready.CanSend ∧ ready.cfg.rowWidth = 2 ∧ 65535 < 65536) ∧
    (({ ready with cfg := { rowWidth := 4 } } : State).CanSend ∧
      ({ ready with cfg := { rowWidth := 4 } } : State).cfg.rowWidth = 4 ∧ 2 ^ 32 - 1 < 2 ^ 32) := by decide

theorem witness_send_raw :
    ready.CanSend ∧ (0x17 : Byte) ≠ 0x18 ∧ (List.replicate 252 (0 : Byte)).length ≤ 252 :=
  ⟨by decide, by decide, by rw [List.length_replicate]⟩

theorem witness_unencodable :
    (ready.phase = .ready ∧ ready.abortPending = false ∧ ready.acqActive = false) ∧
    ({ cs2 with steps := 0 } : SweepSpec).steps = 0 ∧
    (1 ≤ (logSweep 0x461C4000 0x43FA0000).steps ∧ (logSweep 0x461C4000 0x43FA0000).scale = .logarithmic ∧
      fle32 (logSweep 0x461C4000 0x43FA0000).startFreq (logSweep 0x461C4000 0x43FA0000).stopFreq = false) ∧
    (2 ^ 32 ≤ ({ cs2 with steps := 2 ^ 32 } : SweepSpec).steps ∧ ({ cs2 with steps := 2 ^ 32 } : SweepSpec).scale = .linear) ∧
    (1 ≤ ({ cs2 with steps := 1, pointDelayUs := 2 ^ 32 } : SweepSpec).steps ∧ cs2.scale = .linear ∧
      2 ^ 32 ≤ ({ cs2 with steps := 1, pointDelayUs := 2 ^ 32 } : SweepSpec).pointDelayUs) ∧
    65536 ≤ 65536 ∧ (ready.cfg.rowWidth = 2 ∧ 256 ^ ready.cfg.rowWidth ≤ 65536) ∧
    ((0x17 : Byte) ≠ 0x18 ∧ 252 < (List.replicate 253 (0 : Byte)).length) :=
  ⟨by decide, by decide, by decide, by decide, by decide, by decide, by decide, by decide,
    by rw [List.length_replicate]; decide⟩

theorem witness_failed_write :
    (({ ready with txAnswer := .fail } : State).cfg.legal = true ∧ (Instr.initSetup).fromDevice = false ∧
      (Instr.initSetup).wellFormed ready.cfg = true ∧ ({ ready with txAnswer := .fail } : State).acqActive = false ∧
      ({ ready with txAnswer := .fail } : State).txAnswer = .fail) ∧
    (({ ready with acqActive := true, txAnswer := .fail } : State).phase = .ready ∧
      ({ ready with acqActive := true, txAnswer := .fail } : State).abortPending = false ∧
      (Instr.stopMeas).wellFormed ready.cfg = true) := by decide

theorem witness_busy :
    (cycle .command (some 0xB6) .bytes).phase = .collect ∧ (Instr.stopMeas).fromDevice = false ∧
    ({ cycle .command (some 0xB6) .bytes with script := [.op .stopMeas .ok] } : State).script = .op .stopMeas .ok :: [] ∧
    ({ cycle .command (some 0xB6) .bytes with script := [.localOp .readStatus] } : State).script =
      .localOp .readStatus :: [] := by decide

theorem witness_refused_row :
    (({ ready with abortPending := true } : State).phase = .ready ∧
      ({ ready with abortPending := true } : State).abortPending = true ∧ (Instr.stopMeas).fromDevice = false) ∧
    (({ ready with acqActive := true } : State).abortPending = false ∧
      ({ ready with acqActive := true } : State).acqActive = true ∧ Instr.initSetup ≠ .stopMeas) ∧
    (ready.abortPending = false ∧ ready.acqActive = false ∧ (Instr.frame (.send .bytes) 0x18 []).fromDevice = false) := by
  decide

/-- For the statements about messages: CommandAck, Fatal, Nack, Info and Generic. -/
theorem witness_message_in_a_fresh_cycle :
    (cycle .startCommand (some 0xB8) .samples).FreshCycle ∧ (cycle .startCommand (some 0xB8) .samples).expect ≠ some 0x18 ∧
    4 ≤ (cycle .startCommand (some 0xB8) .samples).cfg.rxbufMax ∧ (cycle .listen none .bytes).FreshCycle ∧
    (cycle .listen none .bytes).expect ≠ some 0x18 ∧ sysOf {} 0x18 = .sysGeneric 0x18 ∧ sysOf {} 0x00 = .sysGeneric 0x00 ∧
    (cycle .listen none .bytes).cfg.msgTable.legal = true := by
  decide

/-- For the statements about samples: each format, and none. -/
theorem witness_sample_cycles :
    (sampling .off .absent).FreshCycle ∧ (sampling .off .absent).expect = some 0xB8 ∧ (sampling .off .absent).shape = .samples ∧
    19 ≤ (sampling .off .absent).cfg.rxbufMax ∧ (sampling .off .absent).tsMode = .off ∧ (sampling .off .absent).crMode = .absent ∧
    (sampling .off .present).FreshCycle ∧ (sampling .ms4 .absent).FreshCycle ∧ (sampling .ms4 .present).FreshCycle ∧
    (sampling .us5 .absent).FreshCycle ∧ (sampling .us5 .present).FreshCycle ∧ (sampling .unset .absent).FreshCycle ∧
    (sampling .unset .absent).tsMode = .unset ∧
    ¬ ((sampling .off .present).tsMode = .off ∧ (sampling .off .present).crMode = .absent) := by decide

/-- A format of another length for a row of each length, none set, and the two formats of the 15-byte pair. -/
theorem witness_samples_under_another_format :
    isSampleRow (.sampleNoneAbsent 0 0 0) = true ∧ (sampling .unset .present).FreshCycle ∧
    (sampling .unset .present).expect = some 0xB8 ∧ (sampling .unset .present).shape = .samples ∧
    19 ≤ (sampling .unset .present).cfg.rxbufMax ∧ (sampling .us5 .unset).FreshCycle ∧
    ((sampling .off .present).FreshCycle ∧ (encode {} (.sampleNoneAbsent 0 0 0)).length ≠ 3 + (2 + 0 + 1 + 8)) ∧
    ((sampling .ms4 .absent).FreshCycle ∧ (encode {} (.sampleUs5Absent 0 0 0 0)).length ≠ 3 + (2 + 4 + 0 + 8)) ∧
    ((sampling .us5 .present).FreshCycle ∧ (encode {} (.sampleMs4Present 0 0 0 0 0)).length ≠ 3 + (2 + 5 + 1 + 8)) ∧
    (sampling .us5 .absent).FreshCycle ∧ (sampling .ms4 .present).FreshCycle ∧
    (Instr.sampleUs5Absent 1 ((0x01020304 : BitVec 32) ++ (0x05 : Byte)) 0 0) = .sampleUs5Absent 1 0x0102030405 0 0 := by decide

theorem witness_received_frame :
    ((cycle .command (some 0xB7) .bytes).FreshCycle ∧ (cycle .command (some 0xB7) .bytes).expect = some 0xB7 ∧
      (cycle .command (some 0xB7) .bytes).shape = .bytes ∧ (List.replicate 255 (0 : Byte)).length ≤ 255 ∧
      (List.replicate 255 (0 : Byte)).length + 3 ≤ (cycle .command (some 0xB7) .bytes).cfg.rxbufMax) ∧
    ((cycle .command (some 0xB7) .uint).FreshCycle ∧ (cycle .command (some 0xB7) .uint).shape = .uint ∧
      ([0x00, 0x64] : Bytes).length = 2 ∧ ([] : Bytes).length ≠ 1) ∧
    ((cycle .command (some 0xB7) .floatList).FreshCycle ∧ (cycle .command (some 0xB7) .floatList).shape = .floatList ∧
      ([0x43, 0xFA, 0x00, 0x00] : Bytes) = ([0x43FA0000] : List F32).flatMap encF32 ∧ ([0x43] : Bytes).length % 4 ≠ 0) ∧
    ((cycle .command (some 0xD1) .deviceId).FreshCycle ∧ (cycle .command (some 0xD1) .deviceId).shape = .deviceId ∧
      (cycle .command (some 0xD1) .deviceId).cfg.devId = {} ∧ ([1, 2, 3, 4, 5, 6] : Bytes).length < 7) ∧
    ((sampling .off .absent).shape = .samples ∧ (sampling .off .absent).FreshCycle ∧
      decodeSample [0, 1, 0, 0, 0, 0, 0, 0, 0, 0] .off .absent = .ok ⟨1, none, none, 0, 0⟩ ∧
      decodeSample [0] .off .absent = .error ⟨.malformedFrame, .sampleLength⟩) := by
  simp only [List.length_replicate]; decide

theorem witness_device_row_waits : ready.phase = .ready ∧ (Instr.sampleNoneAbsent 0 0 0).fromDevice = true := by decide

theorem witness_float_sizes : ([0x46, 0x1C, 0x40, 0x00] : Bytes).length = 4 ∧ ([0x46, 0x1C, 0x40] : Bytes).length < 4 := by
  decide

theorem witness_integer_widths :
    (255 < 2 ^ (8 * 1) ∧ 2 ^ (8 * 1) ≤ 256) ∧ (65535 < 2 ^ (8 * 2) ∧ 2 ^ (8 * 2) ≤ 65536) ∧
    (2 ^ 32 - 1 < 2 ^ (8 * 4) ∧ 2 ^ (8 * 4) ≤ 2 ^ 32) ∧ (3 ≠ 1 ∧ 3 ≠ 2 ∧ 3 ≠ 4) ∧
    ([0x00, 0x64] : Bytes).length = 2 ∧ ([] : Bytes).length ≠ 1 := by decide

theorem witness_build_sizes :
    (List.replicate 252 (0 : Byte)).length ≤ 252 ∧ 253 ≤ (List.replicate 253 (0 : Byte)).length := by
  simp only [List.length_replicate]; decide

theorem witness_parser_inverts :
    (∀ p ∈ ([[0xB7, 0x18], []] : List Bytes), p.length ≤ 252) ∧ ([0x55] : Bytes).head? ≠ some 0xB7 := by decide

theorem witness_parser_accepts : parseFrames [0xB7, 0x00, 0xB7, 0x55] 0xB7 = .ok [[]] [0x55] ∧
    frameOk [0xB7, 0x00, 0xB7] 0xB7 = true ∧ (∀ p ∈ ([[0x01]] : List Bytes), p.length ≤ 255) ∧
    ([0x05] : Bytes).length ≤ (0x01 : Byte).toNat ∧ ([0x05, 0xB6] : Bytes)[(0x01 : Byte).toNat]? = some 0xB6 ∧
    (0xB6 : Byte) ≠ 0xB7 := by decide

/-- Replies of two frames that hold under each shape: P4 step 7 and MD11 among them. -/
theorem witness_reply_holds :
    ReplyHolds {} .unset .unset .bytes [[0x18], []] (.bytes [0x18]) [] ∧
    ReplyHolds {} .unset .unset .uint [[0x05], [0x05]] (.uint 1285) [] ∧
    ReplyHolds {} .unset .unset .floatList [[0x43, 0xFA, 0x00], [0x00]] (.floatList [0x43FA0000]) [] ∧
    ReplyHolds {} .unset .unset .deviceId [[0x01, 0x00, 0x2A], [0x34, 0x12, 0x03, 0x17]]
      (.deviceId ⟨1, 42, 0x1234, 0x17, 3⟩) [] ∧
    ReplyHolds {} .off .absent .samples [point 0, point 1] (.samples [pointSample 0, pointSample 1])
      [pointSample 0, pointSample 1] :=
  ⟨And.intro rfl rfl, And.intro (by decide) (And.intro (by decide) rfl),
    Exists.intro [0x43FA0000] (And.intro (by decide) (And.intro rfl rfl)), And.intro (by decide) rfl,
    And.intro (by decide) rfl⟩

/-- Replies of several frames that break each shape that can be broken: MD12 among them, and no format set. -/
theorem witness_reply_breaks :
    ReplyBreaks {} .unset .unset .uint [[0x05, 0x05], [0x05]] ⟨.malformedFrame, .fieldShort⟩ [] ∧
    ReplyBreaks {} .unset .unset .floatList [[0x43], [0xFA]] ⟨.malformedFrame, .fieldShort⟩ [] ∧
    ReplyBreaks {} .unset .unset .deviceId [[0x01, 0x00], [0x2A]] ⟨.malformedFrame, .fieldShort⟩ [] ∧
    ReplyBreaks {} .off .absent .samples [point 0, 0 :: point 1, point 2] ⟨.malformedFrame, .sampleLength⟩
      [pointSample 0] ∧
    ReplyBreaks {} .unset .absent .samples [point 0, point 1] ⟨.malformedFrame, .formatUnset⟩ [] :=
  ⟨And.intro (by decide) (And.intro (by decide) (And.intro (by decide) (And.intro rfl rfl))),
    And.intro (by decide) (And.intro rfl rfl), And.intro (by decide) rfl,
    ⟨[point 0], 0 :: point 1, [point 2], rfl, by decide, by decide⟩, ⟨[], point 0, [point 1], rfl, rfl, by decide⟩⟩

/-- A reply of two frames in one burst, in a fresh cycle of each shape; the two payloads of 255 bytes fill the buffer. -/
theorem witness_received_frames :
    let s : State := { sampling .off .absent with script := [.device (framesOf 0xB8 [point 0, point 1])] }
    (s.FreshCycle ∧ s.expect = some 0xB8 ∧ ([point 0, point 1] : List Bytes) ≠ [] ∧
      (∀ p ∈ [point 0, point 1], p.length ≤ 255) ∧ (framesOf 0xB8 [point 0, point 1]).length ≤ s.cfg.rxbufMax ∧
      s.script = .device (framesOf 0xB8 [point 0, point 1]) :: []) ∧
    (∀ shape : ReplyShape, (cycle .command (some 0xB7) shape).FreshCycle ∧
      (cycle .command (some 0xB7) shape).shape = shape) ∧
    (let ps := [List.replicate 255 (0 : Byte), List.replicate 255 0]
     (∀ p ∈ ps, p.length ≤ 255) ∧ (framesOf 0xB7 ps).length ≤ ({ rxbufMax := 516 } : Config).rxbufMax) := by
  refine ⟨by decide, fun shape => by cases shape <;> decide, ?_, ?_⟩
  · intro p hp
    simp only [List.mem_cons, List.not_mem_nil, or_false, or_self] at hp
    rw [hp, List.length_replicate]
  · simp only [framesOf, List.flatMap_cons, List.flatMap_nil, List.length_append, List.length_replicate, List.length_cons,
      List.length_nil]
    decide

theorem witness_multi_frame :
    ([[0x43, 0xFA, 0x00], [0x00]] : List Bytes) ≠ [] ∧ (∀ p ∈ ([[0x43, 0xFA, 0x00], [0x00]] : List Bytes), p.length ≤ 255) ∧
    ([[0x43, 0xFA, 0x00], [0x00]] : List Bytes).flatten = ([0x43FA0000] : List F32).flatMap encF32 := by decide

/-- The default layout, an even one and an odd one, each with a payload just long enough and one just too short. -/
theorem witness_device_identity :
    ([1, 2, 3, 4, 5, 6] : Bytes).length < 7 ∧
    (let l := otherTables.devId
     let p : Bytes := [10, 11, 12, 13, 14, 15, 16, 17, 18]
     l.legal = true ∧ l.versionAt < p.length ∧ l.deviceIdHighAt < p.length ∧ l.deviceIdLowAt < p.length ∧
      l.middleAt + l.middleSize ≤ p.length ∧ (p.take 8).length ≤ l.versionAt) ∧
    (let p : Bytes := [10, 11, 12, 13, 14, 15, 16, 17]
     oddLayout.legal = true ∧ oddLayout.middleSize % 2 = 1 ∧ oddLayout.versionAt < p.length ∧
      oddLayout.deviceIdHighAt < p.length ∧ oddLayout.deviceIdLowAt < p.length ∧
      oddLayout.middleAt + oddLayout.middleSize ≤ p.length ∧
      (p.take 7).length < oddLayout.middleAt + oddLayout.middleSize ∧ (p.take 2).length ≤ oddLayout.deviceIdLowAt ∧
      (p.take 1).length ≤ oddLayout.deviceIdHighAt) := by decide

theorem witness_sample_codec :
    (let s : Sample := ⟨1, some (2 ^ 32 - 1), some 2, 0, 0⟩
     s.currentRange.isSome = true ∧ s.timestamp.isSome = true ∧ (BitVec.toNat (2 ^ 32 - 1 : BitVec 40)) < 2 ^ 32) ∧
    (let s : Sample := ⟨1, none, none, 0, 0⟩
     s.currentRange.isSome = false ∧ s.timestamp.isSome = false ∧ decodeSample (encSample s .off) .off .absent = .ok s) := by
  decide

theorem witness_double_reversal : ([0x12, 0x34] : Bytes).length % 2 = 0 := by decide

theorem witness_scan_states :
    Scratch.initial.state = .seeking ∧ ({ Scratch.initial with state := .inLength } : Scratch).state = .inLength ∧
    (({ Scratch.initial with state := .inMessage } : Scratch).state = .inMessage ∧
      ({ Scratch.initial with state := .inMessage } : Scratch).code = none) ∧
    (({ Scratch.initial with state := .inMessage, code := some 0x18 } : Scratch).state = .inMessage ∧
      ({ Scratch.initial with state := .inMessage, code := some 0x18 } : Scratch).code = some 0x18) := by decide

theorem witness_scan_codes : ([0x18] : List Byte) ≠ [] := by decide

theorem witness_message_classes :
    (([⟨0x83, .commandAcknowledge⟩, ⟨0x90, .overcurrent⟩] : List SysMsg) =
        [⟨0x83, .commandAcknowledge⟩] ++ ⟨0x90, .overcurrent⟩ :: [] ∧ fatalError .commandAcknowledge = none ∧
      fatalError .overcurrent = some ⟨.overcurrent, .deviceFault⟩) ∧
    (([⟨0x77, .unknown⟩, ⟨0x82, .notAcknowledgeUnrecognized⟩] : List SysMsg) =
        [] ++ ⟨0x77, .unknown⟩ :: [⟨0x82, .notAcknowledgeUnrecognized⟩] ∧ fatalError .unknown = none ∧
      fatalError .notAcknowledgeUnrecognized = none) ∧
    (([⟨0x84, .systemReady⟩, ⟨0x82, .notAcknowledgeUnrecognized⟩] : List SysMsg) =
        [⟨0x84, .systemReady⟩] ++ ⟨0x82, .notAcknowledgeUnrecognized⟩ :: [] ∧ nackError .systemReady = none ∧
      nackError .notAcknowledgeUnrecognized = some ⟨.unrecognizedCommand, .deviceNack⟩) ∧
    (∀ x ∈ ([⟨0x83, .commandAcknowledge⟩] : List SysMsg),
      fatalError x.name = none ∧ x.name ≠ .unknown ∧ nackError x.name = none ∧ x.name = .commandAcknowledge) ∧
    (∀ x ∈ ([⟨0x04, .wakeUp⟩] : List SysMsg),
      fatalError x.name = none ∧ x.name ≠ .unknown ∧ nackError x.name = none ∧ x.name ≠ .commandAcknowledge) := by decide

/-- FR6: threshold 2, answers Empty, Data, Empty, Empty. -/
theorem witness_read_until_idle :
    let s : State := { cycle .command (some 0xB7) .uint with idleThreshold := 2 }
    let as : List ReadAnswer := [.empty, .data [0xB7, 0x01, 0x05, 0xB7], .empty, .empty]
    s.phase = .collect ∧ s.idleCnt = 0 ∧ s.overflow = false ∧ s.rxbuf = [] ∧ s.waiting = [] ∧ 1 ≤ s.idleThreshold ∧
    (∀ a ∈ as, a ≠ .fail ∧ a ≠ .data []) ∧ List.replicate s.idleThreshold .empty <:+ as ∧
    (∀ k, k < as.length → ¬ (List.replicate s.idleThreshold .empty <:+ as.take k)) := by decide

/-- Threshold 2, one empty read counted: isolated empty reads between bytes, stale bytes in the transport. -/
theorem witness_stream_without_gap :
    let s : State := { cycle .acquisition (some 0xB8) .samples with idleThreshold := 2, idleCnt := 1, waiting := [0x18] }
    let as : List ReadAnswer := [.empty, .empty, .data [0x56], .empty]
    let found := if s.waiting ≠ [] ∧ as.head? = some .empty then .data s.waiting :: as.tail else as
    s.phase = .collect ∧ s.memWf = true ∧ (∀ a ∈ as, a ≠ .fail ∧ a ≠ .data []) ∧
    ¬ (List.replicate s.idleThreshold .empty <:+: List.replicate s.idleCnt .empty ++ found) ∧
    (Instr.stopMeas).fromDevice = false := by decide

/-- The bytes exactly fit, and exceed by one, a buffer of three; held bytes come first, and alone with an empty answer. -/
theorem witness_data_read :
    let s : State := { cycle .command (some 0xB7) .uint with cfg := { rxbufMax := 3 }, rxbuf := [0xB7], waiting := [0x01] }
    s.phase = .collect ∧ (s.waiting ++ [0x05] ≠ [] ∧ (s.waiting ++ [0x05]).length ≤ s.cfg.rxbufMax - s.rxbuf.length ∧
      ({ s with script := [.read (.data [0x05])] } : State).script = .read (.data [0x05]) :: []) ∧
    (s.cfg.rxbufMax - s.rxbuf.length < (s.waiting ++ [0x05, 0xB7]).length) ∧
    (s.waiting ++ [] ≠ [] ∧ ({ s with script := [.read .empty] } : State).script = .read .empty :: []) := by decide

theorem witness_empty_read :
    let s : State := { cycle .command (some 0xB7) .uint with script := [.read .empty] }
    s.phase = .collect ∧ s.waiting = [] ∧ s.script = .read .empty :: [] ∧ s.idleThreshold = 1 ∧
    s.idleThreshold ≤ s.idleCnt + 1 ∧
    (({ s with idleThreshold := 2 } : State).idleCnt + 1 < ({ s with idleThreshold := 2 } : State).idleThreshold) := by decide

theorem witness_failed_read :
    let s : State := { cycle .command (some 0xB7) .uint with script := [.read .fail] }
    s.phase = .collect ∧ s.script = .read .fail :: [] ∧ s.cycleKind ≠ .acquisition ∧ s.acqActive = false ∧
    ({ s with cycleKind := .acquisition } : State).cycleKind = .acquisition := by decide

theorem witness_cycle_without_reply :
    ({ cycle .command (some 0xB6) .bytes with overflow := true } : State).overflow = true ∧
    ((cycle .command (some 0xB6) .bytes).overflow = false ∧ (cycle .command (some 0xB6) .bytes).rxbuf = [] ∧
      (cycle .command (some 0xB6) .bytes).cycleKind = .command) ∧
    ((cycle .listen none .bytes).overflow = false ∧ (cycle .listen none .bytes).rxbuf = [] ∧
      (cycle .listen none .bytes).cycleKind = .listen) := by decide

/-- PartialSysMsg, LeadMismatch, RawUnclassified, a parser's error, and bytes after the frames with and without a message. -/
theorem witness_cycle_with_an_unusable_buffer :
    (let s : State := { cycle .command (some 0xB7) .bytes with rxbuf := [0x55, 0x18] }
     s.overflow = false ∧ (∀ e, s.expect = some e → s.rxbuf.head? ≠ some e) ∧ (scan s.cfg.msgTable s.rxbuf).msgs = [] ∧
      (0x18 : Byte) ∈ s.rxbuf) ∧
    (let s : State := { cycle .command (some 0xB7) .bytes with rxbuf := [0x55] }
     s.rxbuf.head? ≠ some 0xB7 ∧ s.rxbuf ≠ [] ∧ (0x18 : Byte) ∉ s.rxbuf ∧ s.expect = some 0xB7) ∧
    (cycle .listen none .bytes).expect = none ∧
    (let s : State := { cycle .command (some 0xB7) .bytes with rxbuf := [0xB7] }
     s.rxbuf.head? = some 0xB7 ∧ parseFrames s.rxbuf 0xB7 = .err ⟨.malformedFrame, .truncated⟩) ∧
    (let ps : List Bytes := [[0x01]]
     ps ≠ [] ∧ (∀ p ∈ ps, p.length ≤ 255) ∧
      [0xB7, 0x01, 0x01, 0xB7, 0x18] = framesOf 0xB7 ps ++ [0x18] ∧
      ([0x18] : Bytes).head? ≠ some 0xB7 ∧ (scan {} [0x18]).msgs = []) ∧
    evaluate (scan {} [0x18, 0x01, 0x90, 0x18]).msgs =
      .fail .overcurrent .deviceFault (scan {} [0x18, 0x01, 0x90, 0x18]).msgs ∧
    evaluate (scan {} [0x18, 0x01, 0x83, 0x18]).msgs = .ack (scan {} [0x18, 0x01, 0x83, 0x18]).msgs :=
  ⟨⟨by decide, fun e h => by simp only [cycle, State.startCycle, Option.some.injEq] at h; subst h; decide, by decide,
    by decide⟩, by decide, by decide, by decide, by decide, by decide, by decide⟩

/-- CL28 under `frames_then_messages`, in an acquisition cycle and in a StartMeasurement cycle; a reply that breaks its
shape, and one with an acknowledgment after it, in a StartMeasurement cycle. What holds and breaks are `witness_reply_holds`
and `witness_reply_breaks`. -/
theorem witness_cycle_with_messages_after_the_frames :
    let mixed : Config := { mixedBurst := .framesThenMessages }
    let s : State := { cycle .startCommand (some 0xB8) .samples with cfg := mixed, tsMode := .off, crMode := .absent }
    let reply := fun (ps : List Bytes) (code : Byte) => framesOf 0xB8 ps ++ [0x18, 0x01, code, 0x18]
    (s.overflow = false ∧ s.expect = some 0xB8 ∧ s.shape = .samples ∧ s.cfg.mixedBurst = .framesThenMessages ∧
      s.cycleKind = .startCommand ∧ ({ s with cycleKind := .acquisition, acqActive := true } : State).acqActive = true) ∧
    ({ s with rxbuf := reply [point 0, point 1] 0x90 } : State).rxbuf = framesOf 0xB8 [point 0, point 1] ++ [0x18, 0x01, 0x90, 0x18] ∧
    (∀ code : Byte, ([0x18, 0x01, code, 0x18] : Bytes) ≠ [] ∧ ([0x18, 0x01, code, 0x18] : Bytes).head? ≠ some 0xB8) ∧
    (scan {} [0x18, 0x01, 0x90, 0x18]).msgs ≠ [] ∧ (scan {} [0x18, 0x01, 0x83, 0x18]).msgs ≠ [] ∧
    (∀ kind info, evaluate (scan {} [0x18, 0x01, 0x83, 0x18]).msgs ≠ .fail kind info (scan {} [0x18, 0x01, 0x83, 0x18]).msgs) ∧
    ReplyHolds mixed .off .absent .samples [point 0, point 1] (.samples [pointSample 0, pointSample 1])
      [pointSample 0, pointSample 1] ∧
    ReplyBreaks mixed .off .absent .samples [point 0, 0 :: point 1] ⟨.malformedFrame, .sampleLength⟩ [pointSample 0] := by
  refine ⟨by decide, rfl, fun code => ⟨by simp, by simp⟩, by decide, by decide, fun kind info => ?_,
    And.intro (by decide) rfl, ⟨[point 0], 0 :: point 1, [], rfl, by decide, by decide⟩⟩
  have h : evaluate (scan {} [0x18, 0x01, 0x83, 0x18]).msgs = .ack (scan {} [0x18, 0x01, 0x83, 0x18]).msgs := by decide
  rw [h]
  simp

/-- CL12, CL14 and R144's row of two messages, and CL16: a failure, an acknowledgment and a notice of two messages each. -/
theorem witness_cycle_of_messages :
    let burst := fun (a b : Byte) => ([0x18, 0x01, a, 0x18, 0x18, 0x01, b, 0x18] : Bytes)
    let s : State := { cycle .startCommand (some 0xB8) .samples with rxbuf := burst 0x83 0x90 }
    (s.overflow = false ∧ s.rxbuf.head? ≠ some 0xB8 ∧ s.expect = some 0xB8 ∧ (cycle .listen none .bytes).expect = none) ∧
    (∀ codes ∈ [(0x83, 0x90), (0x83, 0x77), (0x83, 0x84), (0x04, 0x84)],
      (scan {} (burst codes.1 codes.2)).msgs ≠ [] ∧ (burst codes.1 codes.2).head? ≠ some 0xB8) ∧
    evaluate (scan {} (burst 0x83 0x90)).msgs = .fail .overcurrent .deviceFault (scan {} (burst 0x83 0x90)).msgs ∧
    evaluate (scan {} (burst 0x83 0x77)).msgs = .fail .malformedFrame (.unknownSysCode 0x77) (scan {} (burst 0x83 0x77)).msgs ∧
    evaluate (scan {} (burst 0x83 0x84)).msgs = .ack (scan {} (burst 0x83 0x84)).msgs ∧
    evaluate (scan {} (burst 0x04 0x84)).msgs = .notice (scan {} (burst 0x04 0x84)).msgs := by
  refine ⟨by decide, ?_, by decide, by decide, by decide, by decide⟩
  intro codes h
  simp only [List.mem_cons, List.not_mem_nil, or_false] at h
  rcases h with rfl | rfl | rfl | rfl <;> exact ⟨by decide, by decide⟩

/-- A step for each register that changes one: the two operations, an accepted start, a fatal message, a failed read. -/
theorem witness_register_writers :
    (let s : State := { ready with script := [.localOp (.setIdleThreshold 255)] }
     ∃ t, step s = .next t ∧ t.idleThreshold ≠ s.idleThreshold) ∧
    (let s : State := { ready with script := [.localOp (.setReplyFormat .us5 .present)] }
     ∃ t, step s = .next t ∧ t.tsMode ≠ s.tsMode ∧ t.crMode ≠ s.crMode) ∧
    (let s : State := { cycle .startCommand (some 0xB8) .samples with script := [.device [0x18, 0x01, 0x83, 0x18]] }
     s.acqActive = false ∧ ∃ t, step s = .next t ∧ t.acqActive = true) ∧
    (let s : State := { cycle .command (some 0xB6) .bytes with script := [.device [0x18, 0x01, 0x92, 0x18]] }
     s.abortPending = false ∧ ∃ t, step s = .next t ∧ t.abortPending = true) ∧
    (let s : State := { cycle .acquisition (some 0xB8) .samples with acqActive := true, script := [.read .fail] }
     s.abortPending = false ∧ ∃ t, step s = .next t ∧ t.abortPending = true) :=
  ⟨⟨_, rfl, by decide⟩, ⟨_, rfl, by decide, by decide⟩, ⟨rfl, _, rfl, by decide⟩, ⟨rfl, _, rfl, by decide⟩,
    rfl, _, rfl, by decide⟩

theorem witness_local_operations :
    ready.phase = .ready ∧ ready.acqActive = false ∧ (1 ≤ 1 ∧ 255 ≤ 255) ∧ (255 < 256) ∧
    ({ ready with script := [.localOp (.setIdleThreshold 0)] } : State).script = .localOp (.setIdleThreshold 0) :: [] ∧
    ({ ready with script := [.localOp .listen] } : State).script = .localOp .listen :: [] ∧
    ({ ready with script := [.localOp (.setReplyFormat .off .present)] } : State).script =
      .localOp (.setReplyFormat .off .present) :: [] ∧
    (({ ready with acqActive := true, script := [.localOp .listen] } : State).phase = .ready ∧
      ({ ready with acqActive := true } : State).acqActive = true) := by decide

theorem witness_quiet :
    ({ ready with script := [.quiet], acqActive := true } : State).script = .quiet :: [] ∧
    (({ ready with acqActive := true } : State).phase = .ready ∧ ({ ready with acqActive := true } : State).acqActive = true ∧
      ({ ready with acqActive := true } : State).abortPending = false) ∧
    (cycle .listen none .bytes).phase = .collect := by decide

theorem witness_reset_input : ({ ready with script := [.reset] } : State).script = .reset :: [] := by decide

theorem witness_outcomes : (∀ err info msgs, Report.done ≠ .fail err info msgs) ∧
    Report.fail .timeout .noReply [] = .fail .timeout .noReply [] :=
  ⟨fun _ _ _ h => (by cases h), rfl⟩

/-- For the statements about every step: a state that meets the invariants, and a step it takes that writes a frame. -/
theorem witness_every_step :
    let s : State := { ready with script := [.op .initSetup .ok] }
    (s.Inv ∧ s.ErrorsSurfaced ∧ s.LastErrCurrent ∧ s.nextInput ≠ .reset) ∧
    ∃ t, step s = .next t ∧ t.txOut ≠ s.txOut :=
  ⟨by decide, _, rfl, by decide⟩

/-- An operation in wire form, and its frame written as presented. -/
theorem witness_wire_form_is_written :
    let s : State := { ready with script := [.host [0xD1, 0x00, 0xD1] .bytes .ok] }
    s.nextInput ≠ .reset ∧ ∃ t, step s = .next t ∧ t.txOut = s.txOut ++ [[0xD1, 0x00, 0xD1]] :=
  ⟨by decide, _, rfl, by decide⟩

/-- A step that ends a cycle. -/
theorem witness_cycle_ends :
    let s : State := { cycle .listen none .bytes with script := [.read .empty] }
    s.nextInput ≠ .reset ∧ s.phase = .collect ∧ ∃ t, step s = .next t ∧ t.phase = .ready :=
  ⟨by decide, rfl, _, rfl, by decide⟩

/-- A step that clears the abort, and one that ends the acquisition by the stop. -/
theorem witness_abort_and_stop :
    (let s : State := { ready with abortPending := true, script := [.localOp .ackAbort] }
     s.abortPending = true ∧ s.nextInput ≠ .reset ∧ ∃ t, step s = .next t ∧ t.abortPending = false) ∧
    (let s : State := { ready with acqActive := true, script := [.op .stopMeas .ok] }
     s.acqActive = true ∧ s.nextInput ≠ .reset ∧ ∃ t, step s = .next t ∧ t.acqActive = false) :=
  ⟨⟨rfl, by decide, _, rfl, rfl⟩, rfl, by decide, _, rfl, rfl⟩

end Sys2Proof.Tests
end

section
/-! PROOFS. The state family (spec/10_state.md): what a read of bytes appends to `RXBUF`, and which events alone write the
registers and set the two session flags. -/

namespace Sys2Proof.Machine

/-! ## A read that finds bytes -/

/-- A read whose bytes fit appends them all and resets the idle counter (R118). -/
theorem State.readData_fits {s : State} {bs : Bytes} (h : bs.length ≤ s.cfg.rxbufMax - s.rxbuf.length) :
    s.readData bs = { s with rxbuf := s.rxbuf ++ bs, idleCnt := 0 } := by
  rw [State.readData, State.append_fits h]

/-- A read whose bytes do not fit keeps those that do and records the overflow (R118, R45). -/
theorem State.readData_exceeds {s : State} {bs : Bytes} (h : s.cfg.rxbufMax - s.rxbuf.length < bs.length) :
    s.readData bs =
      { s with rxbuf := s.rxbuf ++ bs.take (s.cfg.rxbufMax - s.rxbuf.length), overflow := true, idleCnt := 0 } := by
  rw [State.readData, State.append, if_neg (Nat.not_le.mpr h)]

/-- An answer without new bytes returns those the transport holds (R39, R44). -/
theorem State.readStep_empty_held {s : State} (h : s.waiting ≠ []) :
    s.readStep .empty = s.drainTransport.readData s.waiting := by
  simp only [State.readStep, transportRead, if_neg h]

/-- A step of a running cycle on a read that finds any byte appends the held bytes and then the new ones, and the transport
holds nothing after it (R39, R44, R118). -/
theorem step_read_bytes {s : State} {a : ReadAnswer} {fresh : Bytes} {rest : List Input} (hp : s.phase = .collect)
    (ha : (a = .empty ∧ fresh = []) ∨ a = .data fresh) (hne : s.waiting ++ fresh ≠ [])
    (hs : s.script = .read a :: rest) :
    step s = .next (({ s with script := rest } : State).drainTransport.readData (s.waiting ++ fresh)) := by
  rw [step_reading hs, State.runRead_collect (by exact hp)]
  rcases ha with ⟨rfl, rfl⟩ | rfl
  · simp only [List.append_nil] at hne ⊢
    exact congrArg Host.Outcome.next (State.readStep_empty_held hne)
  · exact congrArg Host.Outcome.next (State.readStep_data hne)

/-- Settles O45, by the two cases of the append. -/
theorem dataReadAppendsWhatFits : Obligations.DataReadAppendsWhatFits := by
  intro s a fresh rest hp ha hne hs
  have hstep := step_read_bytes hp ha hne hs
  constructor
  · intro hfits
    exact hstep.trans (congrArg Host.Outcome.next (State.readData_fits hfits))
  · intro hexceeds
    exact hstep.trans (congrArg Host.Outcome.next (State.readData_exceeds hexceeds))

/-! ## The registers

`SameRegisters` is the frame of every move but a reset and the two operations that write a register; `SetsFlagsAtCycleEnd` is
what may set a session flag. `RegistersKept` joins them, and each move of a step is shown to have it. -/

/-- The parameters and the three registers the host writes are those of `s`. -/
def State.SameRegisters (s t : State) : Prop :=
  t.cfg = s.cfg ∧ t.idleThreshold = s.idleThreshold ∧ t.tsMode = s.tsMode ∧ t.crMode = s.crMode

/-- `ACQ_ACTIVE` is set only by the end of a StartMeasurement cycle in `Ack` or `Data`, `ABORT_PENDING` only by the end of a
cycle in the fault of a fatal message or in a failed read of an acquisition (R26, R27, R121, R197). -/
def State.SetsFlagsAtCycleEnd (s t : State) : Prop :=
  (s.acqActive = false → t.acqActive = true →
    s.phase = .collect ∧ t.phase = .ready ∧ s.cycleKind = .startCommand ∧
    ∃ o, t.resultOut = s.resultOut ++ [o] ∧ ((∃ msgs, o = .ack msgs) ∨ ∃ value msgs, o = .data value msgs)) ∧
  (s.abortPending = false → t.abortPending = true →
    s.phase = .collect ∧ t.phase = .ready ∧ t.acqActive = false ∧
    ∃ kind info msgs, t.resultOut = s.resultOut ++ [.fail kind info msgs] ∧
      ((∃ m ∈ msgs, fatalError m.name = some ⟨kind, info⟩) ∨
        (kind = .transportError ∧ info = .read ∧ (s.cycleKind = .acquisition ∨ s.acqActive = true))))

/-- What every move of the block but a reset and the two register writes does to the registers. -/
def State.RegistersKept (s t : State) : Prop :=
  s.SameRegisters t ∧ s.SetsFlagsAtCycleEnd t

/-- A move that sets no flag meets the condition on those that do. -/
theorem State.setsFlagsAtCycleEnd_of_not_set {s t : State}
    (h : (t.acqActive = true → s.acqActive = true) ∧ (t.abortPending = true → s.abortPending = true)) :
    s.SetsFlagsAtCycleEnd t :=
  ⟨fun h0 h1 => by simp [h.1 h1] at h0, fun h0 h1 => by simp [h.2 h1] at h0⟩

theorem State.registersKept_of_not_set {s t : State} (hregs : s.SameRegisters t)
    (hflags : (t.acqActive = true → s.acqActive = true) ∧ (t.abortPending = true → s.abortPending = true)) :
    s.RegistersKept t :=
  ⟨hregs, State.setsFlagsAtCycleEnd_of_not_set hflags⟩

/-! ### Sending -/

/-- Sending a frame writes no register and sets no flag: it delivers an outcome or starts a cycle (R192). -/
theorem State.sendFrame_registersKept (s : State) (frame : Except EncStop Bytes) (stops : Bool) (kind : CycleKind)
    (opcode : Byte) (shape : ReplyShape) :
    s.RegistersKept (s.sendFrame frame stops kind opcode shape) := by
  rcases s.sendFrame_cases frame stops kind opcode shape with ⟨r, e⟩ | ⟨k, i, e⟩ | ⟨f, _, _, e⟩ <;> rw [e] <;>
    exact State.registersKept_of_not_set (by simp [State.SameRegisters]) (by simp +contextual)

/-- The refusal tests stand before an operation without adding to what it may change (R191). -/
theorem State.guarded_registersKept {s : State} (op : OpClass) {f : State → State} (h : s.RegistersKept (f s)) :
    s.RegistersKept (s.guarded op f) := by
  rcases s.guarded_cases op f with ⟨r, _, e⟩ | ⟨_, e⟩ <;> rw [e]
  · exact State.registersKept_of_not_set (by simp [State.SameRegisters]) (by simp)
  · exact h

/-! ### Reading -/

/-- `t` is a later state of the cycle that runs in `s`, with no outcome delivered and no flag touched since. -/
def State.SameCycle (s t : State) : Prop :=
  s.phase = .collect ∧ t.phase = .collect ∧ t.cycleKind = s.cycleKind ∧ t.acqActive = s.acqActive ∧
    t.abortPending = s.abortPending ∧ t.resultOut = s.resultOut

/-- What reads come to in a running cycle: it still runs, or it has ended and its end set the flags. -/
def State.CycleReads (s t : State) : Prop :=
  s.SameCycle t ∨ (t.phase = .ready ∧ s.SetsFlagsAtCycleEnd t)

theorem State.CycleReads.setsFlags {s t : State} (h : s.CycleReads t) : s.SetsFlagsAtCycleEnd t := by
  rcases h with ⟨_, _, _, hacq, habort, _⟩ | ⟨_, hflags⟩
  · exact State.setsFlagsAtCycleEnd_of_not_set (by simp [hacq, habort])
  · exact hflags

theorem State.SameCycle.trans_cycleReads {s u t : State} (h : s.SameCycle u) (ht : u.CycleReads t) : s.CycleReads t := by
  obtain ⟨hp, _, hkind, hacq, habort, hout⟩ := h
  simpa only [State.CycleReads, State.SameCycle, State.SetsFlagsAtCycleEnd, *] using ht

/-- An outcome sets `ACQ_ACTIVE` only as the acknowledgment or the data of a StartMeasurement cycle (R197). -/
theorem State.applyEffects_sets_acqActive {s : State} {o : Report} (h0 : s.acqActive = false)
    (h1 : (s.applyEffects o).acqActive = true) :
    s.cycleKind = .startCommand ∧ ((∃ msgs, o = .ack msgs) ∨ ∃ value msgs, o = .data value msgs) := by
  have starts (h : (if s.cycleKind = .startCommand then s.setAcqActive true else s).acqActive = true) :
      s.cycleKind = .startCommand := by
    by_contra hk
    simp [hk, h0] at h
  cases o with
  | ack msgs => exact ⟨starts h1, .inl ⟨msgs, rfl⟩⟩
  | data value msgs => exact ⟨starts h1, .inr ⟨value, msgs, rfl⟩⟩
  | fail kind info msgs =>
    simp only [State.applyEffects] at h1
    split at h1 <;> simp [h0] at h1
  | notice | rawUnclassified | nothing | refused | done | status => simp [State.applyEffects, h0] at h1

/-- An outcome sets `ABORT_PENDING` only as a device fault, and then clears `ACQ_ACTIVE` (R197). -/
theorem State.applyEffects_sets_abortPending {s : State} {o : Report} (h0 : s.abortPending = false)
    (h1 : (s.applyEffects o).abortPending = true) :
    (s.applyEffects o).acqActive = false ∧ ∃ kind info msgs, o = .fail kind info msgs ∧ kind.isFatal = true := by
  cases o with
  | fail kind info msgs =>
    by_cases hf : kind.isFatal = true
    · exact ⟨by simp [State.applyEffects, hf], kind, info, msgs, rfl, hf⟩
    · simp [State.applyEffects, hf, h0] at h1
  | ack | data =>
    simp only [State.applyEffects] at h1
    split at h1 <;> simp [h0] at h1
  | notice | rawUnclassified | nothing | refused | done | status => simp [State.applyEffects, h0] at h1

/-- The end of a cycle sets `ACQ_ACTIVE` for a start that was answered and `ABORT_PENDING` for a fatal message (R197). -/
theorem State.completeCycle_setsFlags {s : State} (hp : s.phase = .collect) : s.SetsFlagsAtCycleEnd s.completeCycle := by
  have hacq : s.completeCycle.acqActive =
      ((s.recordClassified s.classified).applyEffects s.classified.report).acqActive := by simp [State.completeCycle]
  have habort : s.completeCycle.abortPending =
      ((s.recordClassified s.classified).applyEffects s.classified.report).abortPending := by simp [State.completeCycle]
  constructor
  · intro h0 h1
    obtain ⟨hkind, hreport⟩ := State.applyEffects_sets_acqActive (by simpa using h0) (hacq ▸ h1)
    exact ⟨hp, by simp, by simpa using hkind, _, by simp, hreport⟩
  · intro h0 h1
    obtain ⟨hclear, kind, info, msgs, hreport, hfatal⟩ :=
      State.applyEffects_sets_abortPending (by simpa using h0) (habort ▸ h1)
    exact ⟨hp, by simp, hacq.trans hclear, kind, info, msgs, by simp [hreport], .inl (classify_fatal hreport hfatal)⟩

/-- A failed read sets `ABORT_PENDING` only in an acquisition, and then clears `ACQ_ACTIVE` (R121). -/
theorem State.readFail_setsFlags {s : State} (hp : s.phase = .collect) : s.SetsFlagsAtCycleEnd s.readFail := by
  by_cases ha : s.inAcquisition = true
  · have hclear : s.readFail.acqActive = false := by simp [State.readFail, ha]
    have hin : s.cycleKind = .acquisition ∨ s.acqActive = true := by simpa [State.inAcquisition] using ha
    exact ⟨fun _ h1 => by simp [hclear] at h1,
      fun _ _ => ⟨hp, by simp, hclear, _, _, _, s.readFail_resultOut, .inr ⟨rfl, rfl, hin⟩⟩⟩
  · exact State.setsFlagsAtCycleEnd_of_not_set (by simp [State.readFail, ha])

/-- One read in a running cycle: bytes or an empty read below the threshold leave it running, the threshold or a failure ends
it (R118, R119, R121). -/
theorem State.readStep_cycleReads {s : State} (hp : s.phase = .collect) (a : ReadAnswer) :
    s.CycleReads (s.readStep a) := by
  rcases s.readStep_cases a with ⟨bs, _, e⟩ | ⟨_, e⟩ | ⟨_, e⟩
  · exact .inl (by simp [State.SameCycle, e, hp])
  · rw [e]
    have counted : s.SameCycle s.countIdle := by simp [State.SameCycle, hp]
    rcases s.readEmpty_cases with ⟨_, e'⟩ | ⟨_, e'⟩ <;> rw [e']
    · exact .inl counted
    · exact counted.trans_cycleReads (.inr ⟨by simp, State.completeCycle_setsFlags (by simp [hp])⟩)
  · exact .inr ⟨by simp [e], e ▸ State.readFail_setsFlags hp⟩

/-- Empty reads that follow keep this: they go on with a running cycle and stop at one that has ended (R9, R119). -/
theorem State.CycleReads.idleReads {s t : State} (h : s.CycleReads t) (n : Nat) : s.CycleReads (State.idleReads n t) := by
  induction n generalizing t with
  | zero => exact h
  | succ n ih =>
    rcases h with hsame | hended
    · have ⟨_, hp, _⟩ := hsame
      rw [State.idleReads, if_pos hp]
      exact ih (hsame.trans_cycleReads (State.readStep_cycleReads hp .empty))
    · rw [State.idleReads_ready hended.1]
      exact .inr hended

/-- A burst writes no register, and sets the flags only where it ends a cycle (R9, R219). -/
theorem State.burst_registersKept (s : State) (bs : Bytes) : s.RegistersKept (s.burst bs) := by
  refine ⟨by simp [State.SameRegisters], ?_⟩
  unfold State.burst
  cases hp : s.phase with
  | collect => exact ((State.readStep_cycleReads hp _).idleReads _).setsFlags
  | ready => exact State.setsFlagsAtCycleEnd_of_not_set (by simp)

/-- An answer to a read writes no register, and sets the flags only where it ends a cycle (R117). -/
theorem State.runRead_registersKept (s : State) (a : ReadAnswer) : s.RegistersKept (s.runRead a) := by
  cases hp : s.phase with
  | collect =>
    rw [State.runRead_collect hp]
    exact ⟨by simp [State.SameRegisters], (State.readStep_cycleReads hp a).setsFlags⟩
  | ready =>
    simp only [State.runRead, hp]
    cases a <;> exact State.registersKept_of_not_set (by simp [State.SameRegisters]) (by simp)

/-! ### The block's own step and the local operations -/

/-- The acquisition step starts a cycle and no more (R199). -/
theorem State.runQuiet_registersKept (s : State) : s.RegistersKept s.runQuiet := by
  unfold State.runQuiet State.acqStep
  split <;> exact State.registersKept_of_not_set (by simp [State.SameRegisters]) (by simp)

/-- The operand test of SET_IDLE_THRESHOLD passes exactly in the range of the register (R201, R23). -/
theorem badOperand_setIdleThreshold_eq_none (n : Nat) :
    (OpClass.setIdleThreshold n).badOperand = none ↔ 1 ≤ n ∧ n ≤ 255 := by
  by_cases hn : n = 0 ∨ 255 < n
  · simp [OpClass.badOperand, idleMax, hn]
    omega
  · simp [OpClass.badOperand, idleMax, hn]
    omega

/-- What the refusal tests see of an operation without a wire form (R191). -/
def localOpClass : LocalOp → OpClass
  | .listen => .listen
  | .setReplyFormat _ _ => .setReplyFormat
  | .setIdleThreshold n => .setIdleThreshold n
  | .ackAbort => .ackAbort
  | .readStatus => .readStatus

/-- What such an operation does once it is accepted (R196, R200 to R203). -/
def State.performLocal (o : LocalOp) (s : State) : State :=
  match o with
  | .listen => s.startCycle .listen none .bytes
  | .setReplyFormat ts cr => (s.writeFormat (tsModeOf ts) (crModeOf cr)).emit .done
  | .setIdleThreshold n => (s.writeThreshold n).emit .done
  | .ackAbort => s.ackAbort.emit .done
  | .readStatus => s.emit (.status s.acqActive s.abortPending s.lastErr s.idleThreshold s.tsMode s.crMode)

/-- Every operation without a wire form stands behind the refusal tests (R191). -/
theorem State.runLocal_eq_guarded (s : State) (o : LocalOp) :
    s.runLocal o = s.guarded (localOpClass o) (State.performLocal o) := by
  cases o <;> rfl

/-- What an operation without a wire form can do: write the reply format, or the threshold within its range, each only when
accepted in `Ready`; every other one, and a refused one, keeps the registers (R191, R196, R200 to R203). -/
theorem State.runLocal_cases (s : State) (o : LocalOp) :
    s.RegistersKept (s.runLocal o) ∨
    (∃ ts cr, o = .setReplyFormat ts cr ∧ s.phase = .ready ∧ s.acqActive = false ∧
      s.runLocal o = (s.writeFormat (tsModeOf ts) (crModeOf cr)).emit .done) ∨
    (∃ n, o = .setIdleThreshold n ∧ s.phase = .ready ∧ 1 ≤ n ∧ n ≤ 255 ∧
      s.runLocal o = (s.writeThreshold n).emit .done) := by
  rw [State.runLocal_eq_guarded]
  rcases s.guarded_cases (localOpClass o) (State.performLocal o) with ⟨r, _, e⟩ | ⟨haccepted, e⟩ <;> rw [e]
  · exact .inl (State.registersKept_of_not_set (by simp [State.SameRegisters]) (by simp))
  obtain ⟨hp, _, hacq, hoperand⟩ := (s.refusal_eq_none _).mp haccepted
  cases o with
  | setReplyFormat ts cr =>
    have hclear : s.acqActive = false := by simpa [localOpClass, OpClass.blockedByAcq] using hacq
    exact .inr (.inl ⟨ts, cr, rfl, hp, hclear, rfl⟩)
  | setIdleThreshold n =>
    obtain ⟨hlow, hhigh⟩ := (badOperand_setIdleThreshold_eq_none n).mp hoperand
    exact .inr (.inr ⟨n, rfl, hp, hlow, hhigh, rfl⟩)
  | listen | ackAbort | readStatus =>
    exact .inl (State.registersKept_of_not_set (by simp [State.performLocal, State.SameRegisters])
      (by simp [State.performLocal]))

/-- No format of SET_REPLY_FORMAT writes `Unset` (R200). -/
theorem tsModeOf_ne_unset (ts : TsFormat) : tsModeOf ts ≠ .unset := by cases ts <;> decide

theorem crModeOf_ne_unset (cr : CrFormat) : crModeOf cr ≠ .unset := by cases cr <;> decide

/-! ### Every step -/

/-- What a step does to the registers: none is written and the flags are set only where a cycle ends; or the input was one of
the two operations that write a register, accepted; or it was the reset. -/
theorem step_registers {s t : State} (h : step s = .next t) :
    s.RegistersKept t ∨
    (∃ ts cr, s.nextInput = .localOp (.setReplyFormat ts cr) ∧ s.phase = .ready ∧ s.acqActive = false ∧
      s.SetsFlagsAtCycleEnd t ∧ (s.writeFormat (tsModeOf ts) (crModeOf cr)).SameRegisters t) ∨
    (∃ n, s.nextInput = .localOp (.setIdleThreshold n) ∧ s.phase = .ready ∧ 1 ≤ n ∧ n ≤ 255 ∧
      s.SetsFlagsAtCycleEnd t ∧ (s.writeThreshold n).SameRegisters t) ∨
    (s.nextInput = .reset ∧ t.cfg = s.cfg ∧ s.SetsFlagsAtCycleEnd t) := by
  obtain ⟨l, n, a, u, rfl, hmove⟩ := step_moves h
  rcases hmove with ⟨cmd, frame, rfl⟩ | ⟨opcode, payload, shape, rfl⟩ | ⟨bs, rfl⟩ | rfl | ⟨o, hin, rfl⟩ | ⟨ans, rfl⟩ |
    ⟨hin, rfl⟩
  · exact .inl (State.guarded_registersKept _ (State.sendFrame_registersKept _ frame _ _ _ _))
  · exact .inl (State.guarded_registersKept _ (State.sendFrame_registersKept _ _ _ _ _ _))
  · exact .inl (State.burst_registersKept _ bs)
  · exact .inl (State.runQuiet_registersKept _)
  · rcases State.runLocal_cases { s with script := l, envIdx := n, txAnswer := a } o with
      hkept | ⟨ts, cr, rfl, hp, hacq, e⟩ | ⟨m, rfl, hp, hlow, hhigh, e⟩
    · exact .inl hkept
    · rw [e]
      exact .inr (.inl ⟨ts, cr, hin, hp, hacq, State.setsFlagsAtCycleEnd_of_not_set (by simp),
        by simp [State.SameRegisters]⟩)
    · rw [e]
      exact .inr (.inr (.inl ⟨m, hin, hp, hlow, hhigh, State.setsFlagsAtCycleEnd_of_not_set (by simp),
        by simp [State.SameRegisters]⟩))
  · exact .inl (State.runRead_registersKept _ ans)
  · exact .inr (.inr (.inr ⟨hin, rfl, State.setsFlagsAtCycleEnd_of_not_set (by simp [State.reset])⟩))

/-- Settles O56, by the four things a step can do to the registers. -/
theorem registersChangeOnlyByTheirOwnEvents : Obligations.RegistersChangeOnlyByTheirOwnEvents := by
  intro s t h
  rcases step_registers h with ⟨⟨hcfg, hidle, hts, hcr⟩, hacq, habort⟩ |
    ⟨ts, cr, hin, hp, hclear, ⟨hacq, habort⟩, hcfg, hidle, hts, hcr⟩ |
    ⟨n, hin, hp, hlow, hhigh, ⟨hacq, habort⟩, hcfg, hidle, hts, hcr⟩ | ⟨hin, hcfg, hacq, habort⟩
  · exact ⟨hcfg, fun hne => absurd hidle hne, fun hne => by simp [hts, hcr] at hne, hacq, habort⟩
  · exact ⟨hcfg, fun hne => absurd hidle hne,
      fun _ => .inr ⟨ts, cr, hin, hp, hclear, hts ▸ tsModeOf_ne_unset ts, hcr ▸ crModeOf_ne_unset cr⟩, hacq, habort⟩
  · exact ⟨hcfg, fun _ => .inr ⟨n, hin, hp, hlow, hhigh, hidle⟩, fun hne => by simp [hts, hcr] at hne, hacq, habort⟩
  · exact ⟨hcfg, fun _ => .inl hin, fun _ => .inl hin, hacq, habort⟩

end Sys2Proof.Machine
end

section
/-! PROOFS. The memory family (spec/20_memory.md), `TX_OUT`: which frame a step can write, and from which state. -/

namespace Sys2Proof

/-! ## What the two ports decode to -/

/-- What the catalogue reads from an opcode and a payload, it encodes from them (R64, R70, R102). -/
theorem encode_of_commandOf {c : Config} {op : Byte} {p : Bytes} {i : Instr} (h : commandOf c op p = some i) :
    encode c i = if c.queryPad = true ∧ p = [] then [op, 0x00, 0x00, op] else envelope op p := by
  obtain ⟨cmd, hcmd⟩ := commandOf_eq_some h
  obtain ⟨rfl, args, rfl, -, hencode⟩ := commandAs_eq_some hcmd
  exact hencode

/-- What the host's port reads from bytes encodes to those bytes: a padded query, a command's frame, or the generic one. -/
theorem encode_of_decode_host {c : Config} {shape : ReplyShape} {bs : Bytes} {i : Instr}
    (h : decode c (.host shape) bs = .ok i) : encode c i = bs := by
  rcases decode_host_ok h with ⟨op, hpad, rfl, hcmd⟩ | ⟨op, p, -, rfl, hi⟩
  · rw [encode_of_commandOf hcmd, if_pos ⟨hpad, rfl⟩]
  · cases hcmd : frameCommandOf c op p with
    | none => simp [hi, hcmd, encode]
    | some j =>
      obtain rfl : i = j := by simpa [hcmd] using hi
      obtain ⟨hplain, hcmd⟩ : ¬(c.queryPad = true ∧ p = []) ∧ commandOf c op p = some i := by
        simpa [frameCommandOf] using hcmd
      rw [encode_of_commandOf hcmd, if_neg hplain]

/-- A code's message is a row of the device (R75). -/
theorem sysOf_fromDevice (c : Config) (code : Byte) : (sysOf c code).fromDevice = true := by
  unfold sysOf
  split <;> rfl

/-- A sample of any layout is a row of the device (R71). -/
theorem sampleAs_fromDevice {row : SampleRow} {p : Bytes} {i : Instr} (h : sampleAs row p = some i) :
    i.fromDevice = true := by
  simp only [sampleAs, bind, Option.bind_eq_some_iff, Option.ite_none_right_eq_some, Option.some.injEq] at h
  obtain ⟨_, _, _, _, _, _, _, _, _, _, _, rfl⟩ := h
  cases row <;> rfl

/-- The device's port reads rows of the device alone (R71, R73, R75). -/
theorem fromDevice_of_decode_device {c : Config} {ts : TsMode} {cr : CrMode} {bs : Bytes} {i : Instr}
    (h : decode c (.device ts cr) bs = .ok i) : i.fromDevice = true := by
  obtain ⟨op, p, -, -, rfl⟩ := decode_device_ok h
  cases hrow : deviceRowOf c ts cr op p with
  | none => rfl
  | some i =>
    unfold deviceRowOf at hrow
    split at hrow
    · split at hrow
      · obtain rfl := Option.some.inj hrow
        exact sysOf_fromDevice c _
      · cases hrow
    · split at hrow
      · obtain ⟨_, -, hsample⟩ := Option.bind_eq_some_iff.mp hrow
        exact sampleAs_fromDevice hsample
      · cases hrow

namespace Machine

/-! ## What a built frame is

The converse of the laws of FrameBuilder, without their premises: under any parameters and with any operands, a frame that is
built at all is the encoding of its row. -/

/-- A chain of checks that ends well passed each of them. -/
theorem bind_eq_ok {α β : Type} {x : Except EncStop α} {f : α → Except EncStop β} {b : β} (h : x >>= f = .ok b) :
    ∃ a, x = .ok a ∧ f a = .ok b := by
  cases x with
  | error e => cases h
  | ok a => exact ⟨a, rfl, h⟩

theorem encUint_eq_ok {x w : Nat} {bs : Bytes} (h : encUint x w = .ok bs) : x < 256 ^ w ∧ bs = beBytes w x := by
  unfold encUint at h
  split at h
  · split at h
    · exact ⟨‹_›, (Except.ok.inj h).symm⟩
    · cases h
  · cases h

theorem encU16le_eq_ok {x : Nat} {bs : Bytes} (h : encU16le x = .ok bs) :
    bs = [BitVec.ofNat 8 x, BitVec.ofNat 8 (x / 256)] := by
  unfold encU16le at h
  split at h
  · exact (Except.ok.inj h).symm
  · cases h

theorem build_eq_ok {opcode : Byte} {payload f : Bytes} (h : build opcode payload = .ok f) :
    f = envelope opcode payload := by
  by_cases hfits : payload.length ≤ 252
  · exact Except.ok.inj (h.symm.trans (build_ok hfits))
  · have htooLarge : maxPayload < payload.length := by simpa [maxPayload] using hfits
    simp [build, htooLarge] at h

theorem buildCommand_eq_ok {c : Config} {cmd : Cmd} {operands f : Bytes} (h : buildCommand c cmd operands = .ok f) :
    f = encodeCommand c cmd operands := by
  simp only [buildCommand, encodeCommand] at h ⊢
  split at h
  next hpad => rw [if_pos hpad, Except.ok.inj h]
  next hplain => rw [if_neg hplain, build_eq_ok h]

theorem sweepOperands_eq_ok {c : Config} {sp : SweepSpec} {operands : Bytes} (h : sweepOperands c sp = .ok operands) :
    operands = encodeSweep c sp := by
  obtain ⟨_, hsteps, hrest⟩ := bind_eq_ok h
  obtain ⟨_, -, hrest⟩ := bind_eq_ok hrest
  obtain ⟨_, hdelay, -⟩ := bind_eq_ok hrest
  exact Except.ok.inj (h.symm.trans (sweepOperands_ok c (encUint_eq_ok hsteps).1 (encUint_eq_ok hdelay).1))

theorem frameAddFreqList_eq_ok {c : Config} {sp : SweepSpec} {f : Bytes} (h : frameAddFreqList c sp = .ok f) :
    f = encode c (.addFreqList sp) := by
  obtain ⟨_, -, hrest⟩ := bind_eq_ok h
  obtain ⟨_, hoperands, hbuild⟩ := bind_eq_ok hrest
  rw [buildCommand_eq_ok hbuild, sweepOperands_eq_ok hoperands, encode]

theorem frameStartMeas_eq_ok {c : Config} {rep : Nat} {f : Bytes} (h : frameStartMeas c rep = .ok f) :
    f = encode c (.startMeas rep) := by
  obtain ⟨_, hcount, hbuild⟩ := bind_eq_ok h
  rw [buildCommand_eq_ok hbuild, encU16le_eq_ok hcount, encode]

theorem frameGetFreqPoint_eq_ok {c : Config} {row : Nat} {f : Bytes} (h : frameGetFreqPoint c row = .ok f) :
    f = encode c (.getFreqPoint row) := by
  obtain ⟨_, hrow, hbuild⟩ := bind_eq_ok h
  rw [buildCommand_eq_ok hbuild, (encUint_eq_ok hrow).2, encode]

/-! ## What an operation writes -/

/-- A move that writes nothing, or from `Ready` writes `f` alone and then collects with an empty buffer (R47, R116, R195). -/
def State.WritesAtMost (s : State) (f : Bytes) (t : State) : Prop :=
  t.txOut = s.txOut ∨ (s.phase = .ready ∧ t.phase = .collect ∧ t.rxbuf = [] ∧ t.txOut = s.txOut ++ [f])

/-- Sending writes the built frame, if it writes at all (R192). -/
theorem State.sendFrame_writesAtMost {s : State} (hp : s.phase = .ready) {frame : Except EncStop Bytes} {f : Bytes}
    (hf : ∀ {g}, frame = .ok g → g = f) (stops : Bool) (kind : CycleKind) (opcode : Byte) (shape : ReplyShape) :
    s.WritesAtMost f (s.sendFrame frame stops kind opcode shape) := by
  rcases s.sendFrame_cases frame stops kind opcode shape with ⟨r, e⟩ | ⟨k, i, e⟩ | ⟨g, hg, -, e⟩ <;> rw [e]
  · exact .inl (s.decline_txOut r)
  · exact .inl (s.deliver_txOut _)
  · exact .inr ⟨hp, rfl, rfl, by simp [hf hg]⟩

/-- Behind the refusal tests an operation writes only from `Ready` (R191 test 1). -/
theorem State.guarded_writesAtMost {s : State} {f : Bytes} (op : OpClass) {perform : State → State}
    (h : s.phase = .ready → s.WritesAtMost f (perform s)) : s.WritesAtMost f (s.guarded op perform) := by
  rcases s.guarded_cases op perform with ⟨r, -, e⟩ | ⟨haccepted, e⟩ <;> rw [e]
  · exact .inl (s.decline_txOut r)
  · exact h ((s.refusal_eq_none op).mp haccepted).1

theorem State.sendCommand_writesAtMost (s : State) (cmd : Cmd) {frame : Except EncStop Bytes} {f : Bytes}
    (hf : ∀ {g}, frame = .ok g → g = f) : s.WritesAtMost f (s.sendCommand cmd frame) :=
  State.guarded_writesAtMost _ fun hp => State.sendFrame_writesAtMost hp hf _ _ _ _

theorem sendRaw_writesAtMost (s : State) (opcode : Byte) (payload : Bytes) (shape : ReplyShape) :
    s.WritesAtMost (envelope opcode payload) (sendRaw opcode payload shape s) :=
  State.guarded_writesAtMost _ fun hp => State.sendFrame_writesAtMost hp build_eq_ok _ _ _ _

/-- A row of the device writes nothing (R9, R219). -/
theorem exec_device_txOut {i : Instr} {s t : State} (hi : i.fromDevice = true) (h : exec i s = .next t) :
    t.txOut = s.txOut := by
  have hburst : ∃ bs, exec i s = .next (s.burst bs) := by
    cases i with
    | initSetup | addFreqList | startMeas | stopMeas | getNumFreq | getFreqPoint | getFreqList | getDeviceId => cases hi
    | frame dir opcode payload =>
      cases dir with
      | send shape => cases hi
      | receive => exact ⟨_, rfl⟩
    | _ => exact ⟨_, rfl⟩
  obtain ⟨bs, e⟩ := hburst
  obtain rfl := Host.Outcome.next.inj (h.symm.trans e)
  exact s.burst_txOut bs

/-- A row of the host writes its encoding, if it writes at all (R80, R192, R193). -/
theorem exec_host_writesAtMost {i : Instr} {s t : State} (hi : i.fromDevice = false) (h : exec i s = .next t) :
    s.WritesAtMost (encode s.cfg i) t := by
  cases i with
  | initSetup | stopMeas | getNumFreq | getFreqList | getDeviceId =>
    cases h
    exact s.sendCommand_writesAtMost _ buildCommand_eq_ok
  | addFreqList sp =>
    cases h
    exact s.sendCommand_writesAtMost _ frameAddFreqList_eq_ok
  | startMeas rep =>
    cases h
    exact s.sendCommand_writesAtMost _ frameStartMeas_eq_ok
  | getFreqPoint row =>
    cases h
    exact s.sendCommand_writesAtMost _ frameGetFreqPoint_eq_ok
  | frame dir opcode payload =>
    cases dir with
    | send shape =>
      cases h
      exact sendRaw_writesAtMost s opcode payload shape
    | receive => cases hi
  | _ => cases hi

/-! ## What the other moves write -/

@[simp] theorem State.runQuiet_txOut (s : State) : s.runQuiet.txOut = s.txOut := by
  unfold State.runQuiet State.acqStep
  split <;> simp

@[simp] theorem State.runRead_txOut (s : State) (a : ReadAnswer) : (s.runRead a).txOut = s.txOut := by
  unfold State.runRead
  split
  · simp
  · split <;> simp

@[simp] theorem State.runLocal_txOut (s : State) (o : LocalOp) : (s.runLocal o).txOut = s.txOut := by
  rw [State.runLocal_eq_guarded]
  rcases s.guarded_cases (localOpClass o) (State.performLocal o) with ⟨r, -, e⟩ | ⟨-, e⟩ <;> rw [e]
  · exact s.decline_txOut r
  · cases o <;> simp [State.performLocal]

/-- Of the moves that no row names only the reset touches `TX_OUT` (R36). -/
theorem State.fetch_moved_txOut {s t : State} {inp : Input} (h : s.fetch inp = .moved t) (hne : inp ≠ .reset) :
    t.txOut = s.txOut := by
  rcases State.fetch_moved h with rfl | ⟨o, rfl⟩ | ⟨bs, rfl⟩ | ⟨a, rfl⟩ | ⟨hreset, -⟩
  · exact s.runQuiet_txOut
  · exact s.runLocal_txOut o
  · exact s.burst_txOut bs
  · exact s.runRead_txOut a
  · exact absurd hreset hne

/-! ## Every step -/

/-- Where an instruction to run comes from: an operation presented with its operands or in wire form, or a frame of the
device. -/
theorem State.fetch_run_source {s s1 : State} {inp : Input} {i : Instr} (h : s.fetch inp = .run i s1) :
    (∃ ans, inp = .op i ans) ∨ (∃ bs shape ans, inp = .host bs shape ans ∧ decode s.cfg (.host shape) bs = .ok i) ∨
      (∃ bs, inp = .device bs ∧ decode s.cfg s.devicePort bs = .ok i) := by
  unfold State.fetch at h
  split at h <;> (try split at h) <;> simp only [Fetched.run.injEq, reduceCtorEq] at h
  · exact .inl ⟨_, by rw [h.1]⟩
  next hdecode => exact .inr (.inl ⟨_, _, _, rfl, by rw [hdecode, h.1]⟩)
  next hdecode => exact .inr (.inr ⟨_, rfl, by rw [hdecode, h.1]⟩)

/-- What a step that changes `TX_OUT` is: the run of the row its input presents, which writes that row's encoding from `Ready`
(R47, R195). -/
theorem step_writes {s t : State} (h : step s = .next t) (hne : s.nextInput ≠ .reset) (hchanged : t.txOut ≠ s.txOut) :
    ∃ i s1, s.takeInput.fetch s.nextInput = .run i s1 ∧ i.fromDevice = false ∧
      s.phase = .ready ∧ t.phase = .collect ∧ t.rxbuf = [] ∧ t.txOut = s.txOut ++ [encode s.cfg i] := by
  rcases step_cases h with ⟨i, s1, hrun, hexec⟩ | hmoved
  · obtain ⟨ans, rfl⟩ := State.fetch_run hrun
    cases hi : i.fromDevice with
    | true => exact absurd (by simpa using exec_device_txOut hi hexec) hchanged
    | false =>
      have hwrites := exec_host_writesAtMost hi hexec
      simp only [State.WritesAtMost, State.withTxAnswer_txOut, State.withTxAnswer_phase, State.withTxAnswer_cfg,
        State.takeInput_txOut, State.takeInput_phase, State.takeInput_cfg] at hwrites
      exact ⟨i, _, hrun, hi, hwrites.resolve_left hchanged⟩
  · exact absurd (by simpa using State.fetch_moved_txOut hmoved hne) hchanged

/-- Settles O58, by the three ways an input can present a row. -/
theorem frameIsWrittenOnlyFromReady : Obligations.FrameIsWrittenOnlyFromReady := by
  intro s t h hne hchanged
  obtain ⟨i, s1, hrun, hi, hready, hcollect, hempty, hout⟩ := step_writes h hne hchanged
  refine ⟨hready, hcollect, hempty, ?_⟩
  rcases State.fetch_run_source hrun with ⟨ans, hin⟩ | ⟨bs, shape, ans, hin, hdecode⟩ | ⟨bs, -, hdecode⟩
  · exact .inl ⟨i, ans, hin, hi, hout⟩
  · rw [State.takeInput_cfg] at hdecode
    exact .inr ⟨bs, shape, ans, hin, by rw [hout, encode_of_decode_host hdecode]⟩
  · simp [fromDevice_of_decode_device hdecode] at hi

end Machine

end Sys2Proof
end

section
/-! PROOFS. The encoding family (spec/30_encoding.md), the items: encoding what was decoded gives the bytes back, and decoding
what was encoded gives the item back. -/

namespace Sys2Proof

/-! ## From bytes to an item and back -/

/-- A field of `w` bytes holds the number modulo its size (R42). -/
theorem beBytes_mod (w x : Nat) : beBytes w (x % 256 ^ w) = beBytes w x := by
  simpa [beNat_beBytes_mod] using beBytes_beNat (beBytes w x)

/-- A word as wide as its field encodes as the number it was made of. -/
theorem beBytes_toNat_ofNat {n w : Nat} (h : 2 ^ n = 256 ^ w) (x : Nat) :
    beBytes w (BitVec.ofNat n x).toNat = beBytes w x := by
  rw [BitVec.toNat_ofNat, h, beBytes_mod]

/-- What is read from a payload as a sample of some layout encodes to that payload (R71). -/
theorem encode_of_sampleAs {c : Config} {row : SampleRow} {p : Bytes} {i : Instr} (h : sampleAs row p = some i) :
    encode c i = envelope 0xB8 p := by
  simp only [sampleAs, bind, Option.bind_eq_some_iff, Option.ite_none_right_eq_some, Option.some.injEq] at h
  obtain ⟨⟨pid, _⟩, hpid, ⟨time, _⟩, htime, ⟨range, _⟩, hrange, ⟨re, _⟩, hre, ⟨im, _⟩, him, rfl, rfl⟩ := h
  obtain ⟨rfl, -⟩ := takeBE_eq_some hpid
  obtain ⟨rfl, -⟩ := takeBE_eq_some htime
  obtain ⟨rfl, -⟩ := takeBE_eq_some hrange
  obtain ⟨rfl, -⟩ := takeBE_eq_some hre
  obtain ⟨rfl, -⟩ := takeBE_eq_some him
  have hbyte : beBytes 1 range = [BitVec.ofNat 8 range] := by simp [beBytes]
  cases row <;> simp [encode, encodeSample, beBytes_toNat_ofNat, hbyte, -BitVec.toNat_ofNat]

/-- What the device's port reads a frame as, if not the generic row, encodes to that frame (R71, R75). -/
theorem encode_of_deviceRowOf {c : Config} {ts : TsMode} {cr : CrMode} {op : Byte} {p : Bytes} {i : Instr}
    (h : deviceRowOf c ts cr op p = some i) : encode c i = envelope op p := by
  unfold deviceRowOf at h
  split at h
  next hop =>
    split at h
    · rw [← Option.some.inj h, encode_sysOf, hop, encodeSys]
    · cases h
  next =>
    split at h
    next hop =>
      obtain ⟨row, -, hsample⟩ := Option.bind_eq_some_iff.mp h
      rw [encode_of_sampleAs hsample, hop]
    next => cases h

/-- What the device's port reads from bytes encodes to those bytes. -/
theorem encode_of_decode_device {c : Config} {ts : TsMode} {cr : CrMode} {bs : Bytes} {i : Instr}
    (h : decode c (.device ts cr) bs = .ok i) : encode c i = bs := by
  obtain ⟨op, p, -, rfl, rfl⟩ := decode_device_ok h
  cases hrow : deviceRowOf c ts cr op p with
  | none => rfl
  | some i => exact encode_of_deviceRowOf hrow

/-- Settles O2, on each of the two ports. -/
theorem decodedItemEncodesToTheSameBytes : Obligations.DecodedItemEncodesToTheSameBytes := by
  intro c port bs i h
  cases port with
  | host shape => exact encode_of_decode_host h
  | device ts cr => exact encode_of_decode_device h

/-! ## What legal parameters give -/

/-- Legal parameters have codes that tell the members of each enum apart, and legal tables (R6, R37). -/
theorem Config.codes_and_tables_of_legal {c : Config} (h : c.legal = true) :
    c.scaleLinear ≠ c.scaleLogarithmic ∧ c.excitationVoltage ≠ c.excitationCurrent ∧ c.boolFalse ≠ c.boolTrue ∧
      c.tableLegal = true ∧ c.msgTable.legal = true := by
  simp only [Config.legal, Bool.and_eq_true, decide_eq_true_eq] at h
  obtain ⟨⟨⟨⟨⟨⟨_, hscale⟩, hexcitation⟩, hbool⟩, _⟩, htable⟩, hmsgs⟩ := h
  exact ⟨hscale, hexcitation, hbool, htable, hmsgs⟩

theorem Cmd.mem_all (cmd : Cmd) : cmd ∈ Cmd.all := by
  cases cmd <;> decide

/-- Under a legal table every command's payload fits a frame (R62). -/
theorem Config.payloadSize_le {c : Config} (h : c.tableLegal = true) (cmd : Cmd) : c.payloadSize cmd ≤ 252 := by
  simp only [Config.tableLegal, List.all_eq_true, Bool.and_eq_true, decide_eq_true_eq] at h
  obtain ⟨⟨_, hsize⟩, _⟩ := h cmd cmd.mem_all
  exact hsize

/-! ## The host's rows -/

/-- A reader of fields goes on behind a field it finds (R65). -/
theorem takeBE_beBytes_bind {α : Type} (w x : Nat) (rest : Bytes) (f : Nat × Bytes → Option α) :
    takeBE w (beBytes w x ++ rest) >>= f = f (x % 256 ^ w, rest) := by
  rw [takeBE_beBytes, Option.bind_eq_bind, Option.bind_some]

theorem takeTag_bind {α : Type} (tag : Byte) (rest : Bytes) (f : Bytes → Option α) :
    takeTag tag ([tag] ++ rest) >>= f = f rest := by
  rw [List.singleton_append, takeTag_cons, Option.bind_eq_bind, Option.bind_some]

/-- A legal sweep is read back from its encoding (R65, R67). -/
theorem decodeSweep_encodeSweep {c : Config} (hc : c.legal = true) {sp : SweepSpec} (hsp : sp.legal = true) :
    decodeSweep c (encodeSweep c sp) = some sp := by
  obtain ⟨hscale, hexcitation, hbool, _, _⟩ := Config.codes_and_tables_of_legal hc
  simp only [SweepSpec.legal, Bool.and_eq_true, decide_eq_true_eq] at hsp
  obtain ⟨⟨⟨_, hsteps⟩, hdelay⟩, _⟩ := hsp
  have hbyte (b : Byte) : b.toNat % 256 = b.toNat := Nat.mod_eq_of_lt b.isLt
  have hword (x : BitVec 32) : x.toNat % 4294967296 = x.toNat := Nat.mod_eq_of_lt x.isLt
  have hsteps : sp.steps % 4294967296 = sp.steps := Nat.mod_eq_of_lt hsteps
  have hdelay : sp.pointDelayUs % 4294967296 = sp.pointDelayUs := Nat.mod_eq_of_lt hdelay
  simp only [decodeSweep, encodeSweep, ↓takeBE_beBytes_bind, ↓takeTag_bind]
  simp [hbyte, hword, hsteps, hdelay, scaleOf_code hscale, excitationOf_code hexcitation, boolOf_code hbool]

/-- The repetition count is read back from its two bytes, low byte first (R68). -/
theorem operandsOf_startMeas (c : Config) {rep : Nat} (h : rep < 65536) :
    operandsOf c .startMeas [BitVec.ofNat 8 rep, BitVec.ofNat 8 (rep / 256)] = some (.startMeas rep) := by
  have hcount : rep % 256 + 256 * (rep / 256 % 256) = rep := by omega
  simp [operandsOf, hcount]

/-- The row number is read back from its bytes (R69). -/
theorem operandsOf_getFreqPoint (c : Config) {row : Nat} (h : row < 256 ^ c.rowWidth) :
    operandsOf c .getFreqPoint (beBytes c.rowWidth row) = some (.getFreqPoint row) := by
  simp [operandsOf, beNat_beBytes h]

/-- Under a legal table the encoding of a command and its operands is read as what the operands stand for (R64, R70, R102). -/
theorem decode_encodeCommand {c : Config} (hc : c.tableLegal = true) (shape : ReplyShape) {cmd : Cmd} {operands : Bytes}
    {i : Instr} (h : operandsOf c cmd operands = some i) :
    decode c (.host shape) (encodeCommand c cmd operands) = .ok i := by
  have hcommand : commandOf c (c.cmdRow cmd).opcode ((c.cmdRow cmd).head ++ operands) = some i :=
    commandOf_of_commandAs (cmd := cmd) hc (by simp [commandAs, h])
  simp only [encodeCommand]
  split
  next hpad =>
    obtain ⟨hquery, hempty⟩ := hpad
    rw [hempty] at hcommand
    simp [decode, paddedCommandOf, hquery, hcommand]
  next hplain =>
    have hsize : ((c.cmdRow cmd).head ++ operands).length ≤ 255 := by
      have := Config.payloadSize_le hc cmd
      rw [Config.payloadSize, ← (operandsOf_eq_some h).1] at this
      rw [List.length_append]
      omega
    rw [decode_host_envelope c shape _ hsize, frameCommandOf, if_neg hplain, hcommand, Option.getD_some]

/-- What the host's port has as a row of its own is no row of the device. -/
theorem fromDevice_of_canonical_host {c : Config} {shape : ReplyShape} {i : Instr}
    (h : i.canonical c (.host shape) = true) : i.fromDevice = false := by
  cases i with
  | frame dir => cases dir <;> simp_all [Instr.canonical, Instr.fromDevice]
  | _ => simp_all [Instr.canonical, Instr.fromDevice]

/-- Every row of the host is read back from its encoding. -/
theorem decode_encode_host {c : Config} (hc : c.legal = true) {shape : ReplyShape} {i : Instr}
    (hwf : i.wellFormed c = true) (hcan : i.canonical c (.host shape) = true) :
    decode c (.host shape) (encode c i) = .ok i := by
  obtain ⟨_, _, _, htable, _⟩ := Config.codes_and_tables_of_legal hc
  have hhost := fromDevice_of_canonical_host hcan
  cases i with
  | initSetup | stopMeas | getNumFreq | getFreqList | getDeviceId =>
    exact decode_encodeCommand htable shape (by simp [operandsOf])
  | addFreqList sp =>
    exact decode_encodeCommand htable shape (by simp [operandsOf, decodeSweep_encodeSweep hc hwf])
  | startMeas rep =>
    exact decode_encodeCommand htable shape (operandsOf_startMeas c (of_decide_eq_true hwf))
  | getFreqPoint row =>
    exact decode_encodeCommand htable shape (operandsOf_getFreqPoint c (of_decide_eq_true hwf))
  | frame dir op p =>
    cases dir with
    | send shape' =>
      obtain ⟨rfl, hgeneric⟩ : shape = shape' ∧ frameCommandOf c op p = none := by simpa [Instr.canonical] using hcan
      obtain ⟨hsize, _⟩ : p.length ≤ 252 ∧ op ≠ 0x18 := by simpa [Instr.wellFormed] using hwf
      rw [encode, decode_host_envelope c shape op (hsize.trans (by decide)), hgeneric, Option.getD_none]
    | receive => cases hhost
  | _ => cases hhost

/-! ## The device's rows -/

/-- A message of the device is read as the row of its code (R63, R75). -/
theorem decode_encodeSys (c : Config) (ts : TsMode) (cr : CrMode) (code : Byte) :
    decode c (.device ts cr) (encodeSys code) = .ok (sysOf c code) := by
  simp [encodeSys, decode_device_envelope, deviceRowOf]

/-- The same, once the row of the code is known. -/
theorem decode_encodeSys_of_sysOf {c : Config} {ts : TsMode} {cr : CrMode} {code : Byte} {i : Instr}
    (h : sysOf c code = i) : decode c (.device ts cr) (encodeSys code) = .ok i := by
  rw [decode_encodeSys, h]

/-- No layout is longer than 16 bytes (R71). -/
theorem length_le_of_sampleRowOf {ts : TsMode} {cr : CrMode} {n : Nat} {row : SampleRow}
    (h : sampleRowOf ts cr n = some row) : n ≤ 16 := by
  unfold sampleRowOf at h
  split_ifs at h <;> omega

/-- A payload read as a sample of the layout its length stands for is that sample on the device's port (R71). -/
theorem decode_sample {ts : TsMode} {cr : CrMode} {p : Bytes} {row : SampleRow} {i : Instr} (c : Config)
    (hrow : sampleRowOf ts cr p.length = some row) (hsample : sampleAs row p = some i) :
    decode c (.device ts cr) (envelope 0xB8 p) = .ok i := by
  have hsize : p.length ≤ 255 := (length_le_of_sampleRowOf hrow).trans (by decide)
  simp [decode_device_envelope c ts cr _ hsize, deviceRowOf, hrow, hsample]

/-- What the device's port has as a row of its own is a row of the device. -/
theorem fromDevice_of_canonical_device {c : Config} {ts : TsMode} {cr : CrMode} {i : Instr}
    (h : i.canonical c (.device ts cr) = true) : i.fromDevice = true := by
  cases i with
  | frame dir => cases dir <;> simp_all [Instr.canonical, Instr.fromDevice]
  | _ => simp_all [Instr.canonical, Instr.fromDevice]

@[simp] theorem encodeSample_length (pid : BitVec 16) (tw time : Nat) (range : Option Byte) (re im : F32) :
    (encodeSample pid tw time range re im).length = 10 + tw + range.toList.length := by
  simp only [encodeSample, List.length_append, beBytes_length]
  omega

/-- Every row of the device is read back from its encoding. -/
theorem decode_encode_device {c : Config} (hc : c.legal = true) {ts : TsMode} {cr : CrMode} {i : Instr}
    (hwf : i.wellFormed c = true) (hcan : i.canonical c (.device ts cr) = true) :
    decode c (.device ts cr) (encode c i) = .ok i := by
  obtain ⟨_, _, _, _, hmsgs⟩ := Config.codes_and_tables_of_legal hc
  have hdevice := fromDevice_of_canonical_device hcan
  cases i with
  | initSetup | addFreqList | startMeas | stopMeas | getNumFreq | getFreqPoint | getFreqList | getDeviceId => cases hdevice
  | frame dir op p =>
    cases dir with
    | send => cases hdevice
    | receive =>
      have hgeneric : deviceRowOf c ts cr op p = none := by simpa [Instr.canonical] using hcan
      rw [encode, decode_device_envelope c ts cr op (of_decide_eq_true hwf), hgeneric, Option.getD_none]
  | sysFrameNotAcknowledge | sysTimeout | sysWakeUp | sysTcpSocketValid | sysNotAcknowledgeNotExecuted
  | sysNotAcknowledgeUnrecognized | sysCommandAcknowledge | sysSystemReady | sysOvercurrent | sysOvervoltage
  | sysDataHoldup =>
    exact decode_encodeSys_of_sysOf (by simp [sysOf, MsgTable.lookup_code hmsgs])
  | sysGeneric code =>
    have hgeneric : sysOf c code = .sysGeneric code := by simpa [Instr.canonical] using hcan
    exact decode_encodeSys_of_sysOf hgeneric
  | sampleNoneAbsent =>
    exact decode_sample c (row := .noneAbsent) (by simp [sampleRowOf]) (by simp [sampleAs, encodeSample])
  | sampleNonePresent =>
    exact decode_sample c (row := .nonePresent) (by simp [sampleRowOf]) (by simp [sampleAs, encodeSample])
  | sampleMs4Absent =>
    exact decode_sample c (row := .ms4Absent) (by simp [sampleRowOf]) (by simp [sampleAs, encodeSample])
  | sampleMs4Present =>
    have hport : ¬(ts = .us5 ∧ cr = .absent) := by
      rintro ⟨rfl, rfl⟩
      simp [Instr.canonical] at hcan
    exact decode_sample c (row := .ms4Present) (by simp [sampleRowOf, hport]) (by simp [sampleAs, encodeSample])
  | sampleUs5Absent =>
    obtain ⟨rfl, rfl⟩ : ts = .us5 ∧ cr = .absent := by simpa [Instr.canonical] using hcan
    exact decode_sample c (row := .us5Absent) (by simp [sampleRowOf]) (by simp [sampleAs, encodeSample])
  | sampleUs5Present =>
    exact decode_sample c (row := .us5Present) (by simp [sampleRowOf]) (by simp [sampleAs, encodeSample])

/-- Settles O1, on each of the two ports by the rows of the table. -/
theorem decodingAnEncodedItemGivesItBack : Obligations.DecodingAnEncodedItemGivesItBack := by
  intro c port i hc hwf hcan
  cases port with
  | host shape => exact decode_encode_host hc hwf hcan
  | device ts cr => exact decode_encode_device hc hwf hcan

end Sys2Proof
end

section
/-! PROOFS. The encoding family (spec/30_encoding.md), the frames: what the parser and the classifier make of a concatenation of
frames of one opcode. -/

namespace Sys2Proof.Machine

/-! ## The bytes of several frames -/

@[simp] theorem framesOf_nil (e : Byte) : framesOf e [] = [] := rfl

@[simp] theorem framesOf_cons (e : Byte) (p : Bytes) (ps : List Bytes) :
    framesOf e (p :: ps) = [e, BitVec.ofNat 8 p.length] ++ p ++ [e] ++ framesOf e ps := rfl

/-- Frames one after another are the concatenation of the envelopes (R60, R74). -/
theorem flatten_map_envelope (e : Byte) (ps : List Bytes) : (ps.map (envelope e)).flatten = framesOf e ps := rfl

/-- There are at least as many bytes as frames. -/
theorem length_le_length_framesOf (e : Byte) (ps : List Bytes) : ps.length ≤ (framesOf e ps).length := by
  induction ps with
  | nil => simp
  | cons p ps ih =>
    simp only [framesOf_cons, List.length_append, List.length_cons]
    omega

/-- Payloads that fit all build, each to its envelope (R100). -/
theorem mapM_build_ok (e : Byte) {ps : List Bytes} (h : ∀ p ∈ ps, p.length ≤ 252) :
    ps.mapM (build e) = .ok (ps.map (envelope e)) := by
  induction ps with
  | nil => rfl
  | cons p ps ih =>
    have hp := build_ok (opcode := e) (h p List.mem_cons_self)
    have hps := ih fun q hq => h q (List.mem_cons_of_mem p hq)
    simp [List.mapM_cons, hp, hps, bind, Except.bind, pure, Except.pure]

/-! ## The parser on several frames -/

/-- The walk takes the frames off one by one and stops at the tail (R105). -/
theorem parseFrom_framesOf (e : Byte) {rest : Bytes} (hrest : rest.head? ≠ some e) {ps : List Bytes}
    (hps : ∀ p ∈ ps, p.length ≤ 255) {fuel : Nat} (hfuel : ps.length ≤ fuel) (found : List Bytes) :
    parseFrom e fuel found (framesOf e ps ++ rest) = .ok (found ++ ps) rest := by
  induction ps generalizing fuel found with
  | nil => simpa using parseFrom_stop e fuel found hrest
  | cons p ps ih =>
    obtain ⟨n, rfl⟩ : ∃ n, fuel = n + 1 := Nat.exists_eq_add_one.mpr (Nat.lt_of_lt_of_le (by simp) hfuel)
    calc parseFrom e (n + 1) found (framesOf e (p :: ps) ++ rest)
        = parseFrom e (n + 1) found ([e, BitVec.ofNat 8 p.length] ++ p ++ [e] ++ (framesOf e ps ++ rest)) := by
          rw [framesOf_cons, List.append_assoc]
      _ = parseFrom e n (found ++ [p]) (framesOf e ps ++ rest) := parseFrom_frame e n found (hps p List.mem_cons_self) _
      _ = .ok (found ++ [p] ++ ps) rest :=
          ih (fun q hq => hps q (List.mem_cons_of_mem p hq)) (by simpa using hfuel) _
      _ = .ok (found ++ p :: ps) rest := by rw [List.append_assoc, List.singleton_append]

/-- The parser reads frames of the expected opcode and a tail that does not begin with it as their payloads and that tail
(R105). -/
theorem parseFrames_framesOf (e : Byte) {ps : List Bytes} (hps : ∀ p ∈ ps, p.length ≤ 255) {rest : Bytes}
    (hrest : rest.head? ≠ some e) : parseFrames (framesOf e ps ++ rest) e = .ok ps rest := by
  have hfuel : ps.length ≤ (framesOf e ps ++ rest).length := by
    have := length_le_length_framesOf e ps
    simp only [List.length_append]
    omega
  exact parseFrom_framesOf e hrest hps hfuel []

/-- Settles O32, by induction on the list of payloads. -/
theorem parserInvertsBuild : Obligations.ParserInvertsBuild := by
  intro e ps rest hps hrest
  refine ⟨ps.map (envelope e), mapM_build_ok e hps, ?_⟩
  rw [flatten_map_envelope]
  exact parseFrames_framesOf e (fun p hp => (hps p hp).trans (by decide)) hrest

/-! ## The classifier on several frames -/

/-- A buffer that begins with the expected opcode takes the command path (R140). -/
theorem classify_of_head {e : Byte} {b : Bytes} (h : b.head? = some e) (cfg : Config) (ts : TsMode) (cr : CrMode)
    (cl : Scratch) (shape : ReplyShape) (kind : CycleKind) :
    classify cfg ts cr cl b (some e) shape kind false = commandPath cfg ts cr cl b e shape := by
  obtain ⟨tail, rfl⟩ := List.head?_eq_some_iff.mp h
  simp [classify]

/-- Frames of the expected opcode and nothing else are decoded by shape (R143). -/
theorem classify_framesOf (cfg : Config) (ts : TsMode) (cr : CrMode) (cl : Scratch) (e : Byte) {ps : List Bytes}
    (hne : ps ≠ []) (hps : ∀ p ∈ ps, p.length ≤ 255) (shape : ReplyShape) (kind : CycleKind) :
    classify cfg ts cr cl (framesOf e ps) (some e) shape kind false = finishFrames cfg ts cr shape ps [] cl := by
  have hhead : (framesOf e ps).head? = some e := by
    obtain ⟨p, ps, rfl⟩ := List.exists_cons_of_ne_nil hne
    rfl
  have hparse : parseFrames (framesOf e ps) e = .ok ps [] := by
    simpa using parseFrames_framesOf e hps (rest := []) (by simp)
  rw [classify_of_head hhead]
  simp only [commandPath, hparse, if_true]

/-- Frames without messages end in the value their shape gives, or in its failure (R143). -/
theorem finishFrames_data {cfg : Config} {ts : TsMode} {cr : CrMode} {shape : ReplyShape} {ps : List Bytes}
    {value : ReplyValue} {samples : List Sample} (h : ReplyHolds cfg ts cr shape ps value samples) (cl : Scratch) :
    finishFrames cfg ts cr shape ps [] cl = { report := .data value [], samples := samples, cl := cl } := by
  simp [finishFrames, decodeValue_of_replyHolds h]

theorem finishFrames_fail {cfg : Config} {ts : TsMode} {cr : CrMode} {shape : ReplyShape} {ps : List Bytes}
    {err : Raised} {samples : List Sample} (h : ReplyBreaks cfg ts cr shape ps err samples) (cl : Scratch) :
    finishFrames cfg ts cr shape ps [] cl = { report := .fail err.kind err.info [], samples := samples, cl := cl } := by
  simp [finishFrames, (decodeValue_of_replyBreaks h).1]

/-- Settles O34: the classifier decodes the payloads by shape, and a float list is the shape that holds of its encodings. -/
theorem multiFrameReplyIsReassembled : Obligations.MultiFrameReplyIsReassembled := by
  intro cfg ts cr cl kind e ps hne hps
  have hclassify (shape : ReplyShape) := classify_framesOf cfg ts cr cl e hne hps shape kind
  refine ⟨fun shape value samples hholds => ?_, fun shape err samples hbreaks => ?_, fun fs hfs => ?_⟩
  · exact (hclassify shape).trans (finishFrames_data hholds cl)
  · exact (hclassify shape).trans (finishFrames_fail hbreaks cl)
  · have hholds : ReplyHolds cfg ts cr .floatList ps (.floatList fs) [] := ⟨fs, hfs, rfl, rfl⟩
    exact (hclassify .floatList).trans (finishFrames_data hholds cl)

end Sys2Proof.Machine
end

section
/-! PROOFS. The byte codec family (spec/40_bytecodec.md): the order of the bytes of a float. -/

namespace Sys2Proof.Machine

/-- The octet `x[lo+7:lo]` as a number. -/
theorem toNat_octet (x : F32) (lo : Nat) : (x.extractLsb' lo 8).toNat = x.toNat / 2 ^ lo % 256 := by
  rw [BitVec.extractLsb'_toNat, Nat.shiftRight_eq_div_pow]

/-- The most significant octet needs no remainder: nothing stands above bit 31. -/
theorem toNat_topOctet (x : F32) : (x.extractLsb' 24 8).toNat = x.toNat / 2 ^ 24 := by
  have htop : x.toNat / 2 ^ 24 < 256 := Nat.div_lt_of_lt_mul x.isLt
  rw [toNat_octet, Nat.mod_eq_of_lt htop]

theorem toNat_bottomOctet (x : F32) : (x.extractLsb' 0 8).toNat = x.toNat % 256 := by
  rw [toNat_octet, Nat.pow_zero, Nat.div_one]

/-- Settles O28, octet by octet; the worked example is a closed computation. -/
theorem floatIsSentMostSignificantByteFirst : Obligations.FloatIsSentMostSignificantByteFirst := by
  refine ⟨fun x => ?_, by decide⟩
  simp only [encF32, List.map_cons, List.map_nil, toNat_topOctet, toNat_octet x 16, toNat_octet x 8, toNat_bottomOctet]

end Sys2Proof.Machine
end

section
/-! PROOFS. The frame builder family (spec/41_framebuilder.md), sending: what BUILD makes, what becomes of an accepted operation
whose frame is built, and the errors that end it before the write or at it. -/

namespace Sys2Proof.Machine

/-! ## BUILD -/

/-- A payload above `MAX_PAYLOAD` raises with its size (R100). -/
theorem build_tooLarge {opcode : Byte} {payload : Bytes} (h : 252 < payload.length) :
    build opcode payload = .error (.raise ⟨.payloadTooLarge, .size payload.length⟩) :=
  if_pos h

/-- Settles O31, by the two sides of the bound on the payload. -/
theorem buildMakesTheFrameOrRaises : Obligations.BuildMakesTheFrameOrRaises :=
  fun _ _ => ⟨build_ok, build_tooLarge⟩

/-! ## What becomes of an accepted operation -/

/-- A failing outcome stands on both streams and in `LAST_ERR`, and nothing else changes (R225). -/
theorem State.deliver_fail_eq (s : State) (kind : ErrorKind) (info : ErrInfo) (msgs : List SysMsg) :
    s.deliver (.fail kind info msgs) =
      { s with
        resultOut := s.resultOut ++ [.fail kind info msgs]
        errorOut := s.errorOut ++ [⟨kind, info⟩]
        lastErr := ⟨kind.code, some info⟩ } := rfl

/-- An encoder that raises ends the operation with its error, before any write (R192, R220). -/
theorem State.sendFrame_raise (s : State) (e : Raised) (stops : Bool) (kind : CycleKind) (opcode : Byte)
    (shape : ReplyShape) :
    s.sendFrame (.error (.raise e)) stops kind opcode shape = s.deliver (.fail e.kind e.info []) := rfl

/-- A write the transport fails ends the operation; a stop has not cleared `ACQ_ACTIVE` yet (R103, R192). -/
theorem State.sendFrame_writeFailed {s : State} (h : s.txAnswer = .fail) (f : Bytes) (stops : Bool) (kind : CycleKind)
    (opcode : Byte) (shape : ReplyShape) :
    s.sendFrame (.ok f) stops kind opcode shape = s.deliver (.fail .transportError .write []) := by
  simp only [State.sendFrame, State.txWrite, h]

/-- A command passes the refusal tests in `Ready` with no abort pending, while an acquisition runs only if it is the stop
(R191). -/
theorem State.sendCommand_accepted {s : State} {cmd : Cmd} (hready : s.phase = .ready) (habort : s.abortPending = false)
    (hacq : s.acqActive = false ∨ cmd = .stopMeas) (frame : Except EncStop Bytes) :
    s.sendCommand cmd frame = s.sendFrame frame (decide (cmd = .stopMeas)) (cycleKindOf cmd) (s.cfg.cmdRow cmd).opcode
      (s.cfg.cmdRow cmd).shape := by
  refine State.guarded_of_none ((s.refusal_eq_none _).mpr ⟨hready, by simp [habort], fun hactive => ?_, ?_⟩) _
  · obtain rfl : cmd = .stopMeas := hacq.resolve_left (by simp [hactive])
    rfl
  · split <;> rfl

/-- A raw frame of any opcode but that of system messages passes them in `Ready` with no abort pending and no acquisition
(R191, R193). -/
theorem sendRaw_accepted {s : State} {opcode : Byte} (hready : s.phase = .ready) (habort : s.abortPending = false)
    (hacq : s.acqActive = false) (hop : opcode ≠ 0x18) (payload : Bytes) (shape : ReplyShape) :
    sendRaw opcode payload shape s = s.sendFrame (build opcode payload) false .command opcode shape :=
  have hoperand : (OpClass.sendRaw opcode).badOperand = none := if_neg hop
  State.guarded_of_none ((s.refusal_eq_none _).mpr ⟨hready, by simp [habort], by simp [hacq], hoperand⟩) _

/-- An accepted command whose frame raises delivers the error, and nothing else changes (R192, R225). -/
theorem State.sendCommand_raise {s : State} {cmd : Cmd} (hready : s.phase = .ready) (habort : s.abortPending = false)
    (hacq : s.acqActive = false) {frame : Except EncStop Bytes} {e : Raised} (h : frame = .error (.raise e)) :
    s.sendCommand cmd frame = s.deliver (.fail e.kind e.info []) := by
  rw [State.sendCommand_accepted hready habort (.inl hacq), h, State.sendFrame_raise]

/-- The generic frame the host presents is SEND_RAW (R193). -/
theorem exec_sendRaw (s : State) (shape : ReplyShape) (opcode : Byte) (payload : Bytes) :
    exec (.frame (.send shape) opcode payload) s = .next (sendRaw opcode payload shape s) := rfl

/-- Settles O14: the frame BUILD makes is written, and its cycle starts. -/
theorem sendRawStartsItsCycle : Obligations.SendRawStartsItsCycle := by
  intro s shape opcode payload hsend hop hfits
  obtain ⟨hready, habort, hacq, hanswer⟩ := hsend
  rw [exec_sendRaw, sendRaw_accepted hready habort hacq hop, build_ok hfits, State.sendFrame_ok hanswer, hacq]
  simp [envelope]

/-! ## Operands that cannot be encoded -/

theorem checkSweep_noSteps {sp : SweepSpec} (h : sp.steps = 0) :
    checkSweep sp = .error (.raise ⟨.payloadOutOfRange, .steps⟩) := by
  simp [checkSweep, h]

theorem checkSweep_unordered {sp : SweepSpec} (hsteps : 1 ≤ sp.steps) (hscale : sp.scale = .logarithmic)
    (horder : fle32 sp.startFreq sp.stopFreq = false) :
    checkSweep sp = .error (.raise ⟨.payloadOutOfRange, .logRange⟩) := by
  have hsome : ¬sp.steps < 1 := Nat.not_lt.mpr hsteps
  simp [checkSweep, hsome, hscale, horder]

/-- A sweep that fails its check raises the check's error (R153). -/
theorem frameAddFreqList_of_checkSweep {sp : SweepSpec} {e : EncStop} (c : Config) (h : checkSweep sp = .error e) :
    frameAddFreqList c sp = .error e := by
  simp only [frameAddFreqList, h, bind, Except.bind]

/-- A sweep that passes its check raises the error of its operand bytes (R152, R220 item 2). -/
theorem frameAddFreqList_of_sweepOperands {c : Config} {sp : SweepSpec} {e : EncStop} (hcheck : checkSweep sp = .ok ())
    (h : sweepOperands c sp = .error e) : frameAddFreqList c sp = .error e := by
  simp only [frameAddFreqList, hcheck, h, bind, Except.bind]

theorem sweepOperands_stepsTooLarge {sp : SweepSpec} (c : Config) (h : 2 ^ 32 ≤ sp.steps) :
    sweepOperands c sp = .error (outOfRange sp.steps 4) := by
  have hsteps : encUint sp.steps 4 = .error (outOfRange sp.steps 4) := encUint_outOfRange (by simp) h
  simp only [sweepOperands, hsteps, bind, Except.bind]

theorem sweepOperands_delayTooLarge {sp : SweepSpec} (c : Config) (hsteps : sp.steps < 2 ^ 32)
    (h : 2 ^ 32 ≤ sp.pointDelayUs) : sweepOperands c sp = .error (outOfRange sp.pointDelayUs 4) := by
  have hsteps : encUint sp.steps 4 = .ok (beBytes 4 sp.steps) := encUint_ok (by simp) hsteps
  have hdelay : encUint sp.pointDelayUs 4 = .error (outOfRange sp.pointDelayUs 4) := encUint_outOfRange (by simp) h
  simp only [sweepOperands, hsteps, hdelay, encUint_byte, bind, Except.bind]

theorem frameStartMeas_tooLarge {rep : Nat} (c : Config) (h : 65536 ≤ rep) :
    frameStartMeas c rep = .error (outOfRange rep 2) := by
  simp only [frameStartMeas, encU16le, if_neg (Nat.not_lt.mpr h), bind, Except.bind]

theorem frameGetFreqPoint_tooLarge {c : Config} {row : Nat} (hw : c.rowWidth = 1 ∨ c.rowWidth = 2 ∨ c.rowWidth = 4)
    (h : 256 ^ c.rowWidth ≤ row) : frameGetFreqPoint c row = .error (outOfRange row c.rowWidth) := by
  simp only [frameGetFreqPoint, encUint_outOfRange hw h, bind, Except.bind]

/-! ## The order of floats

Both tests of `fle32` said on the number of the pattern: below 2^31 the sign is clear, and the rest is the magnitude. -/

/-- A pattern is a NaN exactly when its magnitude lies above that of the infinities (R90, G1). -/
theorem isNaN32_iff (x : F32) : isNaN32 x = true ↔ 0x7F800000 < x.toNat % 2 ^ 31 := by
  have hexponent : x.extractLsb' 23 8 = 0xFF ↔ x.toNat / 2 ^ 23 % 256 = 255 := by
    rw [← BitVec.toNat_inj, toNat_octet]
    rfl
  have hfraction : x.extractLsb' 0 23 = 0 ↔ x.toNat % 2 ^ 23 = 0 := by
    rw [← BitVec.toNat_inj, BitVec.extractLsb'_toNat, Nat.shiftRight_zero]
    rfl
  simp only [isNaN32, Bool.and_eq_true, decide_eq_true_eq, ne_eq, hexponent, hfraction]
  omega

/-- The key of the order is the number itself below 2^31, and the magnitude reversed from there on (R153, G2). -/
theorem orderKey32_eq (x : F32) :
    orderKey32 x = if 2 ^ 31 ≤ x.toNat then 2 ^ 31 - (x.toNat : Int) else (x.toNat : Int) := by
  have hsign : x.getMsbD 0 = decide (2 ^ 31 ≤ x.toNat) := BitVec.msb_eq_decide x
  have hmagnitude : (x.extractLsb' 0 31).toNat = x.toNat % 2 ^ 31 := by
    rw [BitVec.extractLsb'_toNat, Nat.shiftRight_zero]
  have hx := x.isLt
  simp only [orderKey32, hsign, hmagnitude, decide_eq_true_eq]
  split <;> omega

theorem fle32_iff (a b : F32) : fle32 a b = true ↔
    a.toNat % 2 ^ 31 ≤ 0x7F800000 ∧ b.toNat % 2 ^ 31 ≤ 0x7F800000 ∧ orderKey32 a ≤ orderKey32 b := by
  have hnan (x : F32) : isNaN32 x = false ↔ x.toNat % 2 ^ 31 ≤ 0x7F800000 := by
    rw [← Bool.not_eq_true, isNaN32_iff, Nat.not_lt]
  simp only [fle32, Bool.and_eq_true, Bool.not_eq_true', decide_eq_true_eq, hnan, and_assoc]

theorem orderKey32_le_iff (a b : F32) : orderKey32 a ≤ orderKey32 b ↔
    (a.toNat < 2 ^ 31 ∧ b.toNat < 2 ^ 31 ∧ a.toNat ≤ b.toNat) ∨
      (2 ^ 31 ≤ a.toNat ∧ 2 ^ 31 ≤ b.toNat ∧ b.toNat ≤ a.toNat) ∨
      (2 ^ 31 ≤ a.toNat ∧ b.toNat < 2 ^ 31) ∨
      (a.toNat = 0 ∧ b.toNat = 2 ^ 31) := by
  rw [orderKey32_eq, orderKey32_eq]
  split <;> split <;> omega

/-- Settles O15: each operand raises in its encoder, and the order is that of the keys of two numbers. -/
theorem unencodableOperandRaisesBeforeAnyWrite : Obligations.UnencodableOperandRaisesBeforeAnyWrite := by
  refine ⟨fun a b => by rw [fle32_iff, orderKey32_le_iff], fun s hready habort hacq => ?_⟩
  have hraise {cmd : Cmd} {frame : Except EncStop Bytes} {e : Raised} (h : frame = .error (.raise e)) :=
    congrArg (Host.Outcome.next (φ := Fault) (ρ := Refusal))
      (State.sendCommand_raise (cmd := cmd) hready habort hacq h)
  refine ⟨fun sp hnone => ?_, fun sp hsome hscale horder => ?_, fun sp hsteps horder => ?_,
    fun sp hsome hsteps horder hdelay => ?_, fun rep hrep => ?_, fun row hw hrow => ?_,
    fun shape opcode payload hop hlarge => ?_⟩
  · exact hraise (frameAddFreqList_of_checkSweep _ (checkSweep_noSteps hnone))
  · exact hraise (frameAddFreqList_of_checkSweep _ (checkSweep_unordered hsome hscale horder))
  · exact hraise (frameAddFreqList_of_sweepOperands
      (checkSweep_legal ((by decide : 1 ≤ 2 ^ 32).trans hsteps) horder) (sweepOperands_stepsTooLarge _ hsteps))
  · exact hraise (frameAddFreqList_of_sweepOperands
      (checkSweep_legal hsome horder) (sweepOperands_delayTooLarge _ hsteps hdelay))
  · exact hraise (frameStartMeas_tooLarge _ hrep)
  · exact hraise (frameGetFreqPoint_tooLarge hw hrow)
  · rw [exec_sendRaw, sendRaw_accepted hready habort hacq hop, build_tooLarge hlarge, State.sendFrame_raise]
    rfl

/-! ## A write that fails -/

/-- A row of the host is a command of the catalogue or a raw frame (R70, R193). -/
theorem host_row_cases {i : Instr} (h : i.fromDevice = false) :
    (∃ cmd, catalogueCommand i = some cmd) ∨ ∃ shape opcode payload, i = .frame (.send shape) opcode payload := by
  cases i with
  | initSetup | addFreqList | startMeas | stopMeas | getNumFreq | getFreqPoint | getFreqList | getDeviceId =>
    exact .inl ⟨_, rfl⟩
  | frame dir opcode payload =>
    cases dir with
    | send shape => exact .inr ⟨shape, opcode, payload, rfl⟩
    | receive => cases h
  | _ => cases h

/-- Legal parameters have a row width of the codec (R6, D9). -/
theorem rowWidth_of_legal {c : Config} (h : c.legal = true) : c.rowWidth = 1 ∨ c.rowWidth = 2 ∨ c.rowWidth = 4 := by
  simp only [Config.legal, Bool.and_eq_true, Bool.or_eq_true, decide_eq_true_eq] at h
  obtain ⟨⟨⟨⟨⟨⟨⟨_, hwidth⟩, _⟩, _⟩, _⟩, _⟩, _⟩, _⟩ := h
  exact or_assoc.mp hwidth

/-- Every command of the catalogue with legal operands sends its encoding (R151 to R159, R192). -/
theorem exec_catalogueCommand {s : State} {i : Instr} {cmd : Cmd} (hc : s.cfg.legal = true)
    (hwf : i.wellFormed s.cfg = true) (h : catalogueCommand i = some cmd) :
    exec i s = .next (s.sendCommand cmd (.ok (encode s.cfg i))) := by
  obtain ⟨_, _, _, htable, _⟩ := Config.codes_and_tables_of_legal hc
  have hsize (cmd : Cmd) := Config.payloadSize_le htable cmd
  have hsends {frame : Except EncStop Bytes} (hrun : exec i s = .next (s.sendCommand cmd frame))
      (hframe : frame = .ok (encode s.cfg i)) : exec i s = .next (s.sendCommand cmd (.ok (encode s.cfg i))) :=
    hframe ▸ hrun
  cases i with
  | initSetup => cases h; exact hsends rfl (frameInitSetup_ok (hsize _))
  | addFreqList sp =>
    simp only [Instr.wellFormed, SweepSpec.legal, Bool.and_eq_true, Bool.or_eq_true, decide_eq_true_eq] at hwf
    obtain ⟨⟨⟨hsome, hsteps⟩, hdelay⟩, horder⟩ := hwf
    cases h; exact hsends rfl (frameAddFreqList_ok (hsize _) hsome hsteps hdelay horder)
  | startMeas rep => cases h; exact hsends rfl (frameStartMeas_ok (hsize _) (of_decide_eq_true hwf))
  | stopMeas => cases h; exact hsends rfl (frameStopMeas_ok (hsize _))
  | getNumFreq => cases h; exact hsends rfl (frameGetNumFreq_ok (hsize _))
  | getFreqPoint row =>
    cases h; exact hsends rfl (frameGetFreqPoint_ok (hsize _) (rowWidth_of_legal hc) (of_decide_eq_true hwf))
  | getFreqList => cases h; exact hsends rfl (frameGetFreqList_ok (hsize _))
  | getDeviceId => cases h; exact hsends rfl (frameGetDeviceId_ok (hsize _))
  | _ => cases h

/-- Settles O16: a legal row is built, so the write is reached, and its failure is all that is delivered. -/
theorem failedWriteEndsTheOperation : Obligations.FailedWriteEndsTheOperation := by
  intro s i hc hhost hwf hready habort hacq hanswer
  suffices h : exec i s = .next (s.deliver (.fail .transportError .write [])) from h
  rcases host_row_cases hhost with ⟨cmd, hcmd⟩ | ⟨shape, opcode, payload, rfl⟩
  · have hacq : s.acqActive = false ∨ cmd = .stopMeas := hacq.imp_right fun hi => by subst hi; cases hcmd; rfl
    rw [exec_catalogueCommand hc hwf hcmd, State.sendCommand_accepted hready habort hacq,
      State.sendFrame_writeFailed hanswer]
  · obtain ⟨hfits, hop⟩ : payload.length ≤ 252 ∧ opcode ≠ 0x18 := by simpa [Instr.wellFormed] using hwf
    have hacq : s.acqActive = false := hacq.resolve_right (by simp)
    rw [exec_sendRaw, sendRaw_accepted hready habort hacq hop, build_ok hfits, State.sendFrame_writeFailed hanswer]

end Sys2Proof.Machine
end

section
/-! PROOFS. The frame builder family, receiving (spec/41_framebuilder.md R106, spec/43_classifier.md): how a cycle ends whose
buffer is no plain reply. First what the scan finds, then what each path makes of the buffer, then what the end of the cycle
writes. -/

namespace Sys2Proof.Machine

/-! ## The scan and the token -/

/-- Bytes without the token leave a seeking scan seeking; only its position moves (R131). -/
theorem foldl_scanByte_of_token_not_mem (t : MsgTable) {b : Bytes} (hb : sysOpcode ∉ b) {c : Scratch}
    (hc : c.state = .seeking) : b.foldl (scanByte t) c = { c with pos := c.pos + b.length } := by
  induction b generalizing c with
  | nil => rfl
  | cons x b ih =>
    obtain ⟨hx, hb⟩ : x ≠ sysOpcode ∧ sysOpcode ∉ b := by simpa [eq_comm] using hb
    have hstep : scanByte t c x = { c with pos := c.pos + 1 } := by simp [scanByte, hc, hx]
    rw [List.foldl_cons, hstep, ih hb (c := { c with pos := c.pos + 1 }) hc]
    simp [Nat.add_assoc, Nat.add_comm 1]

/-- A seeking scan enters a message at the token (R131). -/
theorem scanByte_token (t : MsgTable) {c : Scratch} (hc : c.state = .seeking) : (scanByte t c sysOpcode).entered = true := by
  simp [scanByte, hc]

/-- Once entered, always entered (R22, R136). -/
theorem scanByte_entered (t : MsgTable) {c : Scratch} (hc : c.entered = true) (x : Byte) :
    (scanByte t c x).entered = true := by
  unfold scanByte
  repeat' split
  all_goals simp [hc]

theorem foldl_scanByte_entered (t : MsgTable) (b : Bytes) {c : Scratch} (hc : c.entered = true) :
    (b.foldl (scanByte t) c).entered = true := by
  induction b generalizing c with
  | nil => exact hc
  | cons x b ih => exact ih (scanByte_entered t hc x)

/-- A buffer that holds the token is entered, at the first of them (R136). -/
theorem scan_entered_of_token_mem (t : MsgTable) {b : Bytes} (hb : sysOpcode ∈ b) : (scan t b).entered = true := by
  obtain ⟨before, after, rfl, hbefore⟩ := List.eq_append_cons_of_mem hb
  have hentered : ((before ++ sysOpcode :: after).foldl (scanByte t) Scratch.initial).entered = true := by
    rw [List.foldl_append, foldl_scanByte_of_token_not_mem t hbefore rfl, List.foldl_cons]
    exact foldl_scanByte_entered t after (scanByte_token t rfl)
  exact hentered

theorem Scratch.verdict_messages {c : Scratch} (h : c.msgs ≠ []) : c.verdict = .messages c.msgs :=
  if_pos h

/-- A token without a whole message is malformed (R136). -/
theorem verdict_scan_of_token_mem {t : MsgTable} {b : Bytes} (hmsgs : (scan t b).msgs = []) (hb : sysOpcode ∈ b) :
    (scan t b).verdict = .malformed := by
  simp [Scratch.verdict, hmsgs, scan_entered_of_token_mem t hb]

/-- Bytes without a token are raw (R136). -/
theorem verdict_scan_of_token_not_mem (t : MsgTable) {b : Bytes} (hb : sysOpcode ∉ b) : (scan t b).verdict = .raw := by
  simp only [Scratch.verdict, scan, foldl_scanByte_of_token_not_mem t hb (c := Scratch.initial) rfl]
  rfl

/-! ## The scan path -/

section
variable (t : MsgTable) {b : Bytes} (expect : Option Byte) (kind : CycleKind)

/-- Whole messages decide, whatever else stands among them (R141, R144). -/
theorem scanPath_messages (h : (scan t b).msgs ≠ []) :
    scanPath t b expect kind = ⟨evaluate (scan t b).msgs, [], scan t b⟩ := by
  simp only [scanPath, Scratch.verdict_messages h]

theorem scanPath_partialSysMsg (hmsgs : (scan t b).msgs = []) (hb : sysOpcode ∈ b) :
    scanPath t b expect kind = ⟨.fail .malformedFrame .partialSysMsg [], [], scan t b⟩ := by
  simp only [scanPath, verdict_scan_of_token_mem hmsgs hb]

theorem scanPath_leadMismatch (e : Byte) (hne : b ≠ []) (hb : sysOpcode ∉ b) :
    scanPath t b (some e) kind = ⟨.fail .malformedFrame .leadMismatch [], [], scan t b⟩ := by
  simp only [scanPath, verdict_scan_of_token_not_mem t hb, if_neg hne]

theorem scanPath_rawUnclassified (hne : b ≠ []) (hb : sysOpcode ∉ b) :
    scanPath t b none kind = ⟨.rawUnclassified b, [], scan t b⟩ := by
  simp only [scanPath, verdict_scan_of_token_not_mem t hb, if_neg hne]

/-- A command that nothing answers times out (R141). -/
theorem scanPath_noReply {kind : CycleKind} (h : kind = .command ∨ kind = .startCommand) :
    scanPath t [] expect kind = ⟨.fail .timeout .noReply [], [], scan t []⟩ := by
  rcases h with rfl | rfl <;> rfl

/-- An acquisition or LISTEN cycle may collect nothing (R141). -/
theorem scanPath_nothing {kind : CycleKind} (h : kind = .acquisition ∨ kind = .listen) :
    scanPath t [] expect kind = ⟨.nothing, [], scan t []⟩ := by
  rcases h with rfl | rfl <;> rfl

end

/-! ## The command path -/

/-- What a list of messages comes to carries the whole list (R142). -/
theorem evaluate_cases (msgs : List SysMsg) :
    (∃ kind info, evaluate msgs = .fail kind info msgs) ∨ evaluate msgs = .ack msgs ∨ evaluate msgs = .notice msgs := by
  unfold evaluate
  split
  · exact .inl ⟨_, _, rfl⟩
  split
  · exact .inl ⟨_, _, rfl⟩
  split
  · exact .inl ⟨_, _, rfl⟩
  split
  · exact .inr (.inl rfl)
  · exact .inr (.inr rfl)

section
variable {cfg : Config} {ts : TsMode} {cr : CrMode} {shape : ReplyShape} {ps : List Bytes} {samples : List Sample}
  {msgs : List SysMsg}

/-- Frames that are not of their shape decide before any message (R106, R143). -/
theorem finishFrames_breaks {err : Raised} (h : ReplyBreaks cfg ts cr shape ps err samples) (msgs : List SysMsg)
    (cl : Scratch) : finishFrames cfg ts cr shape ps msgs cl = ⟨.fail err.kind err.info msgs, samples, cl⟩ := by
  simp only [finishFrames, (decodeValue_of_replyBreaks h).1]

/-- Messages that come to a failure decide over the data (R106, R143). -/
theorem finishFrames_messages_fail {value : ReplyValue} (h : ReplyHolds cfg ts cr shape ps value samples)
    (hne : msgs ≠ []) {kind : ErrorKind} {info : ErrInfo} (heval : evaluate msgs = .fail kind info msgs) (cl : Scratch) :
    finishFrames cfg ts cr shape ps msgs cl = ⟨.fail kind info msgs, samples, cl⟩ := by
  simp only [finishFrames, decodeValue_of_replyHolds h, if_neg hne, heval]

/-- Otherwise the data stands with the messages beside it (R106, R143). -/
theorem finishFrames_messages_data {value : ReplyValue} (h : ReplyHolds cfg ts cr shape ps value samples)
    (heval : ∀ kind info, evaluate msgs ≠ .fail kind info msgs) (cl : Scratch) :
    finishFrames cfg ts cr shape ps msgs cl = ⟨.data value msgs, samples, cl⟩ := by
  simp only [finishFrames, decodeValue_of_replyHolds h]
  rcases evaluate_cases msgs with ⟨kind, info, hfail⟩ | hack | hnotice
  · exact absurd hfail (heval kind info)
  · simp [hack]
  · simp [hnotice]

variable {b rest : Bytes} {e : Byte} (cl : Scratch)

/-- The parser's error is the cycle's (R143). -/
theorem commandPath_err {err : Raised} (h : parseFrames b e = .err err) :
    commandPath cfg ts cr cl b e shape = ⟨.fail err.kind err.info [], [], cl⟩ := by
  simp only [commandPath, h]

/-- Under `strict` nothing may follow the frames (R106). -/
theorem commandPath_tail_strict (h : parseFrames b e = .ok ps rest) (hne : rest ≠ []) (hmixed : cfg.mixedBurst = .strict) :
    commandPath cfg ts cr cl b e shape = ⟨.fail .malformedFrame .trailingBytes [], [], cl⟩ := by
  simp only [commandPath, h, if_neg hne, hmixed]

/-- Under `frames_then_messages` only messages may (R106). -/
theorem commandPath_tail_noMessages (h : parseFrames b e = .ok ps rest) (hne : rest ≠ [])
    (hmixed : cfg.mixedBurst = .framesThenMessages) (hmsgs : (scan cfg.msgTable rest).msgs = []) :
    commandPath cfg ts cr cl b e shape =
      ⟨.fail .malformedFrame .trailingBytes [], [], scan cfg.msgTable rest⟩ := by
  simp only [commandPath, h, if_neg hne, hmixed]
  by_cases hb : sysOpcode ∈ rest
  · rw [verdict_scan_of_token_mem hmsgs hb]
  · rw [verdict_scan_of_token_not_mem _ hb]

theorem commandPath_tail_messages (h : parseFrames b e = .ok ps rest) (hne : rest ≠ [])
    (hmixed : cfg.mixedBurst = .framesThenMessages) (hmsgs : (scan cfg.msgTable rest).msgs ≠ []) :
    commandPath cfg ts cr cl b e shape =
      finishFrames cfg ts cr shape ps (scan cfg.msgTable rest).msgs (scan cfg.msgTable rest) := by
  simp only [commandPath, h, if_neg hne, hmixed, Scratch.verdict_messages hmsgs]

end

/-! ## Which path the buffer takes -/

section
variable {s : State}

theorem State.classified_overflow (h : s.overflow = true) :
    s.classified = ⟨.fail .malformedFrame .overflow [], [], s.cl⟩ := by
  simp only [State.classified, classify, h, if_true]

/-- A buffer that does not begin with the expected opcode takes the scan path (R140). -/
theorem State.classified_scanPath (hover : s.overflow = false)
    (hhead : ∀ e, s.expect = some e → s.rxbuf.head? ≠ some e) :
    s.classified = scanPath s.cfg.msgTable s.rxbuf s.expect s.cycleKind := by
  simp only [State.classified, classify, hover]
  cases hexpect : s.expect with
  | none => rfl
  | some e =>
    cases hbuf : s.rxbuf with
    | nil => rfl
    | cons b0 tail =>
      have hb0 : b0 ≠ e := by simpa [hbuf] using hhead e hexpect
      simp [hb0]

/-- One that begins with it takes the command path (R140). -/
theorem State.classified_commandPath {e : Byte} (hover : s.overflow = false) (hexpect : s.expect = some e)
    (hhead : s.rxbuf.head? = some e) :
    s.classified = commandPath s.cfg s.tsMode s.crMode s.cl s.rxbuf e s.shape := by
  rw [State.classified, hover, hexpect]
  exact classify_of_head hhead _ _ _ _ _ _

/-! ## What the end of the cycle writes -/

variable {samples : List Sample} {cl : Scratch}

/-- A failure is delivered, and a fatal one aborts the session (R197, R225). -/
theorem State.completeCycle_fail {kind : ErrorKind} {info : ErrInfo} {msgs : List SysMsg}
    (h : s.classified = ⟨.fail kind info msgs, samples, cl⟩) :
    s.completeCycle =
      { s with
        phase := .ready, cl := cl, sampleOut := s.sampleOut ++ samples,
        acqActive := s.acqActive && !kind.isFatal, abortPending := s.abortPending || kind.isFatal,
        resultOut := s.resultOut ++ [.fail kind info msgs],
        errorOut := s.errorOut ++ [⟨kind, info⟩], lastErr := ⟨kind.code, some info⟩ } := by
  rw [State.completeCycle_of h, State.deliver_fail_eq]
  cases hfatal : kind.isFatal <;>
    simp [State.applyEffects, hfatal, State.recordClassified, State.abortSession, State.endCycle]

/-- A failure that is no device fault and has no messages beside it is `failing` (R225). -/
theorem State.completeCycle_failing {kind : ErrorKind} {info : ErrInfo} (h : s.classified = ⟨.fail kind info [], [], cl⟩)
    (hfatal : kind.isFatal = false) : s.completeCycle = s.failing cl kind info := by
  rw [State.completeCycle_fail h]
  simp [State.failing, hfatal]

/-- An acknowledgment or data starts the acquisition of a StartMeasurement cycle (R197). -/
theorem State.completeCycle_starts {o : Report} (h : s.classified = ⟨o, samples, cl⟩)
    (ho : (∃ msgs, o = .ack msgs) ∨ ∃ value msgs, o = .data value msgs) :
    s.completeCycle =
      { s with
        phase := .ready, cl := cl, sampleOut := s.sampleOut ++ samples,
        acqActive := s.acqActive || decide (s.cycleKind = .startCommand), resultOut := s.resultOut ++ [o] } := by
  rw [State.completeCycle_of h]
  by_cases hkind : s.cycleKind = .startCommand <;> rcases ho with ⟨msgs, rfl⟩ | ⟨value, msgs, rfl⟩ <;>
    simp [State.applyEffects, hkind, State.recordClassified, State.setAcqActive, State.deliver, State.emit,
      State.endCycle]

/-- Any other outcome of a cycle without samples is delivered and has no effect (R197). -/
theorem State.completeCycle_keeps {o : Report} (h : s.classified = ⟨o, [], cl⟩)
    (ho : o = .nothing ∨ (∃ bs, o = .rawUnclassified bs) ∨ ∃ msgs, o = .notice msgs) :
    s.completeCycle = { s with phase := .ready, cl := cl, resultOut := s.resultOut ++ [o] } := by
  rw [State.completeCycle_of h]
  rcases ho with rfl | ⟨bs, rfl⟩ | ⟨msgs, rfl⟩ <;>
    simp [State.applyEffects, State.recordClassified, State.deliver, State.emit, State.endCycle]

end

/-- Frames and a tail behind them begin with the opcode (R60). -/
theorem head?_framesOf_append (e : Byte) {ps : List Bytes} (h : ps ≠ []) (rest : Bytes) :
    (framesOf e ps ++ rest).head? = some e := by
  obtain ⟨p, ps, rfl⟩ := List.exists_cons_of_ne_nil h
  rfl

/-- Settles O48: each clause is one path of the classifier and one of the three ways a cycle ends. -/
theorem cycleWithoutAUsableReply : Obligations.CycleWithoutAUsableReply := by
  intro s
  have hempty (h : s.rxbuf = []) : ∀ e, s.expect = some e → s.rxbuf.head? ≠ some e := by simp [h]
  refine ⟨fun hover => ?_, fun hover hbuf hkind => ?_, fun hover hbuf hkind => ?_,
    fun hover hhead hmsgs htoken => ?_, fun e hover hexpect hhead hne htoken => ?_,
    fun hover hexpect hne htoken => ?_, ?_,
    fun e err hover hexpect hhead hparse => ?_,
    ?_⟩
  · exact State.completeCycle_failing (State.classified_overflow hover) rfl
  · have hclass := State.classified_scanPath hover (hempty hbuf)
    rw [hbuf, scanPath_noReply _ _ hkind] at hclass
    exact State.completeCycle_failing hclass rfl
  · have hclass := State.classified_scanPath hover (hempty hbuf)
    rw [hbuf, scanPath_nothing _ _ hkind] at hclass
    exact State.completeCycle_keeps hclass (.inl rfl)
  · have hclass := State.classified_scanPath hover hhead
    rw [scanPath_partialSysMsg _ _ _ hmsgs htoken] at hclass
    exact State.completeCycle_failing hclass rfl
  · have hclass := State.classified_scanPath hover (by simpa [hexpect] using hhead)
    rw [hexpect, scanPath_leadMismatch _ _ e hne htoken] at hclass
    exact State.completeCycle_failing hclass rfl
  · have hclass := State.classified_scanPath hover (by simp [hexpect])
    rw [hexpect, scanPath_rawUnclassified _ _ hne htoken] at hclass
    exact State.completeCycle_keeps hclass (.inr (.inl ⟨_, rfl⟩))
  · intro hover hhead found hmsgs
    have hclass := State.classified_scanPath hover hhead
    rw [scanPath_messages _ _ _ hmsgs] at hclass
    refine ⟨fun kind info heval => ?_, fun heval => ?_, fun heval => ?_⟩ <;> rw [heval] at hclass
    · simpa using State.completeCycle_fail hclass
    · simpa using State.completeCycle_starts hclass (.inl ⟨_, rfl⟩)
    · exact State.completeCycle_keeps hclass (.inr (.inr ⟨_, rfl⟩))
  · have hclass := State.classified_commandPath hover hexpect hhead
    rw [commandPath_err _ hparse] at hclass
    exact State.completeCycle_failing hclass (parseFrom_err_not_fatal hparse)
  · intro e ps rest hover hexpect hne hsize hbuf hrest hrestHead tail
    have hhead : s.rxbuf.head? = some e := hbuf ▸ head?_framesOf_append e hne rest
    have hparse : parseFrames s.rxbuf e = .ok ps rest := hbuf ▸ parseFrames_framesOf e hsize hrestHead
    have hclass := State.classified_commandPath hover hexpect hhead
    refine ⟨fun hmixed => ?_, fun hmixed hmsgs => ?_, fun hmixed hmsgs => ?_⟩
    · rw [commandPath_tail_strict _ hparse hrest hmixed] at hclass
      exact State.completeCycle_failing hclass rfl
    · rw [commandPath_tail_noMessages _ hparse hrest hmixed hmsgs] at hclass
      exact State.completeCycle_failing hclass rfl
    · rw [commandPath_tail_messages _ hparse hrest hmixed hmsgs] at hclass
      refine ⟨fun err samples hbreaks => ?_,
        fun value samples hholds => ⟨fun kind info heval => ?_, fun heval => ?_⟩⟩
      · rw [finishFrames_breaks hbreaks] at hclass
        simpa [(decodeValue_of_replyBreaks hbreaks).2] using State.completeCycle_fail hclass
      · rw [finishFrames_messages_fail hholds hmsgs heval] at hclass
        exact State.completeCycle_fail hclass
      · rw [finishFrames_messages_data hholds heval] at hclass
        exact State.completeCycle_starts hclass (.inr ⟨_, _, rfl⟩)

end Sys2Proof.Machine
end

section
/-! PROOFS. The reader family (spec/42_framereader.md): what an empty read does, what a running cycle has gathered after a run
of answers, where the cycle ends, and a burst as the reader's own steps. -/

namespace Sys2Proof.Machine

/-! ## An empty read -/

/-- Below the threshold an empty read is only counted (R119). -/
theorem State.readEmpty_below {s : State} (h : s.idleCnt + 1 < s.idleThreshold) : s.readEmpty = s.countIdle := by
  rcases s.readEmpty_cases with ⟨_, e⟩ | ⟨hreached, _⟩
  · exact e
  · omega

/-- At the threshold an empty read completes the cycle (R119, R120). -/
theorem State.readEmpty_reaches {s : State} (h : s.idleThreshold ≤ s.idleCnt + 1) :
    s.readEmpty = s.countIdle.completeCycle := by
  rcases s.readEmpty_cases with ⟨hbelow, _⟩ | ⟨_, e⟩
  · omega
  · exact e

/-- A step of a running cycle on an empty answer is an empty read, as long as the transport holds nothing (R117, R119). -/
theorem step_read_empty {s : State} {rest : List Input} (hp : s.phase = .collect) (hw : s.waiting = [])
    (hs : s.script = .read .empty :: rest) : step s = .next ({ s with script := rest } : State).readEmpty := by
  rw [step_reading hs, State.runRead_collect (by exact hp), State.readStep_empty (by exact hw)]

/-- Settles O46, by the two sides of the threshold; with the threshold 1 the first empty read is on the far side. -/
theorem emptyReadCountsAndCompletes : Obligations.EmptyReadCountsAndCompletes := by
  intro s rest hp hw hs
  have hstep := step_read_empty hp hw hs
  refine ⟨fun hbelow => ?_, fun hreached => ?_, fun hone => ?_⟩
  · exact hstep.trans (congrArg Host.Outcome.next (State.readEmpty_below hbelow))
  · exact hstep.trans (congrArg Host.Outcome.next (State.readEmpty_reaches hreached))
  · have hreached : s.idleThreshold ≤ s.idleCnt + 1 := by omega
    rw [State.readEmpty_reaches (by exact hreached)] at hstep
    exact ⟨_, _, hstep, State.completeCycle_phase _, State.completeCycle_rxbuf _, State.completeCycle_resultOut _⟩

/-! ## Runs over answers laid down -/

/-- A run is a run of its first steps and then of the others. -/
theorem run_add {s t : State} (m n : Nat) (h : Host.Core.run core m s = .next t) :
    Host.Core.run core (m + n) s = Host.Core.run core n t := by
  induction m generalizing s with
  | zero =>
    cases h
    rw [Nat.zero_add]
  | succ m ih =>
    rw [Nat.succ_add]
    cases hs : step s with
    | next s1 =>
      rw [run_next m hs] at h
      rw [run_next (m + n) hs, ih h]
    | fault r => cases r
    | refused r =>
      have hs' : core.step s = .refused r := hs
      simp [Host.Core.run, hs'] at h

/-- What an answer does, in `Collect` and in `Ready`, does not depend on the script. -/
theorem State.runRead_over_script (s : State) (a : ReadAnswer) (l : List Input) :
    ({ s with script := l } : State).runRead a = { s.runRead a with script := l } := by
  obtain hp | hp : s.phase = .collect ∨ s.phase = .ready := by cases s.phase <;> simp
  · rw [State.runRead_collect hp, State.runRead_collect (by exact hp), State.readStep_over_script]
  · cases a <;> simp [State.runRead, hp, State.hold]

/-- A step takes the first of the answers laid down (R117). -/
theorem step_reading_cons (s : State) (a : ReadAnswer) (as : List ReadAnswer) :
    step (s.reading (a :: as)) = .next ((s.runRead a).reading as) := by
  rw [step_reading (rest := as.map .read) rfl]
  exact congrArg Host.Outcome.next (State.runRead_over_script s a _)

/-! ## A burst -/

/-- A burst is a read that returns the bytes and then idle reads; in `Ready` these change nothing (R9, R219). -/
theorem State.burst_eq_idleReads (s : State) (bs : Bytes) :
    s.burst bs = State.idleReads s.idleThreshold (s.runRead (.data bs)) := by
  cases hp : s.phase with
  | collect => simp [State.burst, State.runRead, hp]
  | ready =>
    rw [State.burst_ready hp]
    have hheld : s.runRead (.data bs) = s.hold bs := by simp [State.runRead, hp]
    rw [hheld, State.idleReads_ready (by exact hp)]

theorem State.burst_over_script (s : State) (bs : Bytes) (l : List Input) :
    ({ s with script := l } : State).burst bs = { s.burst bs with script := l } := by
  rw [State.burst_eq_idleReads, State.burst_eq_idleReads, State.runRead_over_script, State.idleReads_over_script]

/-- Settles O7: the first step takes the bytes, and the empty answers left are the idle reads of the burst. -/
theorem burstIsTheReaderStepsOneByOne : Obligations.BurstIsTheReaderStepsOneByOne := by
  intro s bs
  rw [run_next _ (step_reading_cons s _ _), run_idle, State.burst_over_script, State.burst_eq_idleReads]

/-! ## What a running cycle has gathered -/

/-- The empty answers in a row at the end of a run, `n` of them having come before it (R115). -/
def idleRun (n : Nat) (as : List ReadAnswer) : Nat :=
  as.foldl (fun n a => if a = .empty then n + 1 else 0) n

@[simp] theorem idleRun_concat (n : Nat) (as : List ReadAnswer) (a : ReadAnswer) :
    idleRun n (as ++ [a]) = if a = .empty then idleRun n as + 1 else 0 := by
  simp [idleRun]

@[simp] theorem dataOf_concat_data (as : List ReadAnswer) (bs : Bytes) : dataOf (as ++ [.data bs]) = dataOf as ++ bs := by
  simp [dataOf]

@[simp] theorem dataOf_concat_empty (as : List ReadAnswer) : dataOf (as ++ [.empty]) = dataOf as := by
  simp [dataOf]

/-- A list ends in `n + 1` copies of an element exactly if that is its last one and the others end in `n` copies. -/
theorem replicate_succ_suffix_concat {α : Type} {n : Nat} {l : List α} {a e : α} :
    List.replicate (n + 1) e <:+ l ++ [a] ↔ e = a ∧ List.replicate n e <:+ l := by
  rw [List.replicate_succ', List.suffix_concat_iff]
  simp [List.append_singleton_inj]

/-- The count is at least `n` exactly if the answers, those counted before among them, end in `n` empty ones. -/
theorem le_idleRun_iff {n c : Nat} {as : List ReadAnswer} :
    n ≤ idleRun c as ↔ List.replicate n .empty <:+ List.replicate c .empty ++ as := by
  induction as using List.reverseRecOn generalizing n with
  | nil => simp [idleRun, List.suffix_replicate_iff]
  | append_singleton as a ih =>
    cases n with
    | zero => simp
    | succ n =>
      rw [← List.append_assoc, replicate_succ_suffix_concat, ← ih, idleRun_concat]
      cases a <;> simp

/-- Cutting a list before appending to it does not show in what the same cut leaves of the whole. -/
theorem take_append_take {α : Type} (n : Nat) (l r : List α) : (l.take n ++ r).take n = (l ++ r).take n := by
  rcases Nat.le_total l.length n with h | h
  · rw [List.take_of_length_le h]
  · rw [List.take_append_of_le_length (by simp [h]), List.take_append_of_le_length h, List.take_take, Nat.min_self]

/-- An append seen from the buffer's capacity, as the whole state it gives (R118, R45). -/
theorem State.append_of_memWf {s : State} (h : s.memWf = true) (bs : Bytes) :
    s.append bs = { s with
      rxbuf := (s.rxbuf ++ bs).take s.cfg.rxbufMax
      overflow := s.overflow || decide (s.cfg.rxbufMax < s.rxbuf.length + bs.length) } := by
  obtain ⟨hbuf, hover⟩ := State.append_take h bs
  rw [← hbuf, ← hover]
  unfold State.append
  split <;> rfl

/-- `s` after a run of answers that did not end its cycle: the bytes that came are in the buffer up to its capacity, and the
empty answers since the last of them are counted (R118, R119). -/
def State.gathered (s : State) (as : List ReadAnswer) : State :=
  { s with
    rxbuf := (s.rxbuf ++ dataOf as).take s.cfg.rxbufMax
    overflow := s.overflow || decide (s.cfg.rxbufMax < s.rxbuf.length + (dataOf as).length)
    idleCnt := idleRun s.idleCnt as }

theorem State.gathered_nil {s : State} (h : s.memWf = true) : s.gathered [] = s := by
  have hfits : s.rxbuf.length ≤ s.cfg.rxbufMax := of_decide_eq_true h
  simp [State.gathered, dataOf, idleRun, List.take_of_length_le hfits, Nat.not_lt.mpr hfits]

theorem State.gathered_memWf (s : State) (as : List ReadAnswer) : (s.gathered as).memWf = true := by
  simp [State.memWf, State.gathered]

/-- Bytes read after others are gathered with them, cut at the same capacity (R118). -/
theorem State.readData_gathered (s : State) (as : List ReadAnswer) (bs : Bytes) :
    (s.gathered as).readData bs = s.gathered (as ++ [.data bs]) := by
  have hcut : (s.overflow || decide (s.cfg.rxbufMax < s.rxbuf.length + (dataOf as).length) ||
      decide (s.cfg.rxbufMax < min s.cfg.rxbufMax (s.rxbuf.length + (dataOf as).length) + bs.length)) =
      (s.overflow || decide (s.cfg.rxbufMax < s.rxbuf.length + ((dataOf as).length + bs.length))) := by
    rw [Bool.or_assoc, ← Bool.decide_or]
    exact congrArg (s.overflow || ·) (decide_eq_decide.mpr (by omega))
  rw [State.readData, State.append_of_memWf (s.gathered_memWf as)]
  simp [State.gathered, take_append_take, hcut]

/-- An empty read below the threshold is one more empty answer gathered (R119). -/
theorem State.countIdle_gathered (s : State) (as : List ReadAnswer) :
    (s.gathered as).countIdle = s.gathered (as ++ [.empty]) := by
  simp [State.countIdle, State.gathered]

/-- One more answer, one step of the reader, as long as the count stays below the threshold (R117 to R119). -/
theorem State.readStep_gathered {s : State} {as : List ReadAnswer} {a : ReadAnswer} (hw : s.waiting = [])
    (ha : a ≠ .fail ∧ a ≠ .data []) (hidle : idleRun s.idleCnt (as ++ [a]) < s.idleThreshold) :
    (s.gathered as).readStep a = s.gathered (as ++ [a]) := by
  have hw' : (s.gathered as).waiting = [] := hw
  cases a with
  | fail => exact absurd rfl ha.1
  | empty =>
    rw [idleRun_concat, if_pos rfl] at hidle
    rw [State.readStep_empty hw', State.readEmpty_below hidle]
    exact s.countIdle_gathered as
  | data bs =>
    have hne : bs ≠ [] := fun h => ha.2 (h ▸ rfl)
    have hdrained : (s.gathered as).drainTransport = s.gathered as := by simp [State.drainTransport, ← hw']
    rw [State.readStep_data (by simp [hw', hne]), hdrained, hw', List.nil_append, State.readData_gathered]

/-- A running cycle gathers the answers of a run no part of which ends in as many empty ones as the threshold says. -/
theorem run_gathered {s : State} (hp : s.phase = .collect) (hm : s.memWf = true) (hw : s.waiting = [])
    {as : List ReadAnswer} (rest : List ReadAnswer) (ha : ∀ a ∈ as, a ≠ .fail ∧ a ≠ .data [])
    (hidle : ∀ p, p <+: as → idleRun s.idleCnt p < s.idleThreshold) :
    Host.Core.run core as.length (s.reading (as ++ rest)) = .next ((s.gathered as).reading rest) := by
  induction as using List.reverseRecOn generalizing rest with
  | nil => rw [State.gathered_nil hm]; rfl
  | append_singleton as a ih =>
    have hfirst := ih (a :: rest) (fun b hb => ha b (by simp [hb])) (fun p hpre => hidle p (hpre.trans (as.prefix_append _)))
    have hlast := State.readStep_gathered hw (ha a (by simp)) (hidle _ (List.prefix_refl _))
    rw [List.length_append, List.append_assoc, List.singleton_append, run_add _ _ hfirst, List.length_singleton,
      run_next 0 (step_reading_cons _ _ _), run_zero, State.runRead_collect (by exact hp), hlast]

/-- The empty answer that reaches the threshold ends the cycle, on what was gathered with it (R119, R120). -/
theorem step_gathered_completes {s : State} {as : List ReadAnswer} (hp : s.phase = .collect) (hw : s.waiting = [])
    (h : s.idleThreshold ≤ idleRun s.idleCnt (as ++ [.empty])) :
    step ((s.gathered as).reading [.empty]) = .next ((s.gathered (as ++ [.empty])).reading []).completeCycle := by
  rw [idleRun_concat, if_pos rfl] at h
  rw [step_read_empty (s := (s.gathered as).reading [.empty]) hp hw rfl, State.readEmpty_reaches (by exact h),
    ← State.countIdle_gathered]
  rfl

/-- Where no proper part of a run ends in `n` empty answers, the count stays below `n` up to its last answer (R115). -/
theorem idleRun_lt_of_first {n k : Nat} {as p : List ReadAnswer} (hk : k < as.length)
    (hfirst : ∀ j, j < as.length → ¬ (List.replicate n .empty <:+ as.take j)) (hp : p <+: as.take k) :
    idleRun 0 p < n := by
  obtain ⟨hpre, hlen⟩ := List.prefix_take_iff.mp hp
  have hnot := hfirst p.length (by omega)
  rw [← List.prefix_iff_eq_take.mp hpre] at hnot
  rw [← Nat.not_le, le_idleRun_iff]
  exact hnot

/-- Settles O43: up to its last answer the cycle gathers, and the last one is the empty read that reaches the threshold. -/
theorem cycleEndsAtTheFirstIdleRun : Obligations.CycleEndsAtTheFirstIdleRun := by
  intro s as hp hidle hover hbuf hw hT ha hends hfirst
  have hm : s.memWf = true := by simp [State.memWf, hbuf]
  have hgathers : ∀ k < as.length,
      Host.Core.run core k (s.reading as) = .next ((s.gathered (as.take k)).reading (as.drop k)) := by
    intro k hk
    have hbelow : ∀ p, p <+: as.take k → idleRun s.idleCnt p < s.idleThreshold :=
      fun p hpre => hidle ▸ idleRun_lt_of_first hk hfirst hpre
    have hrun := run_gathered hp hm hw (as.drop k) (fun a h => ha a (List.mem_of_mem_take h)) hbelow
    rwa [List.take_append_drop, List.length_take_of_le hk.le] at hrun
  refine ⟨fun k hk => ⟨_, hgathers k hk, hp, rfl⟩, ?_⟩
  obtain ⟨before, rfl⟩ : ∃ before, as = before ++ [.empty] := by
    rw [← Nat.sub_add_cancel hT, List.replicate_succ'] at hends
    obtain ⟨l, rfl⟩ := hends
    exact ⟨_, (List.append_assoc _ _ _).symm⟩
  have hreached : s.idleThreshold ≤ idleRun s.idleCnt (before ++ [.empty]) := hidle ▸ le_idleRun_iff.mpr hends
  have hrun := hgathers before.length (by simp)
  rw [List.take_left, List.drop_left] at hrun
  refine ⟨((s.gathered (before ++ [.empty])).reading []).completeCycle, ?_, State.completeCycle_phase _, ?_, ?_, _,
    State.completeCycle_resultOut _⟩
  · rw [List.length_append, run_add _ _ hrun, List.length_singleton, run_next 0 (step_gathered_completes hp hw hreached),
      run_zero]
  · simp [State.reading, State.gathered, hbuf]
  · simp [State.reading, State.gathered, hbuf, hover]

end Sys2Proof.Machine
end

section
/-! PROOFS. The classifier family (spec/43_classifier.md section 1): the rows of the scan's transition table that one whole
system message takes, what any byte and any buffer do to the scan, and the verdict of messages sent back to back. -/

namespace Sys2Proof.Machine

/-! ## The rows of the transition table (R135) -/

section
variable (t : MsgTable) {c : Scratch}

/-- The token opens a candidate (R131). -/
theorem scanByte_opens (hstate : c.state = .seeking) :
    scanByte t c sysOpcode = { c with state := .inLength, entered := true, pos := c.pos + 1 } := by
  simp [scanByte, hstate]

/-- Any other byte is passed over (R131). -/
theorem scanByte_passes {b : Byte} (hstate : c.state = .seeking) (hb : b ≠ sysOpcode) :
    scanByte t c b = { c with pos := c.pos + 1 } := by
  simp [scanByte, hstate, hb]

/-- The length of a system message is accepted (R132). -/
theorem scanByte_acceptsLength (hstate : c.state = .inLength) :
    scanByte t c sysLength = { c with state := .inMessage, code := none, pos := c.pos + 1 } := by
  simp [scanByte, hstate]

/-- The first byte of a message is its code, the token's value included (R133). -/
theorem scanByte_holdsCode (b : Byte) (hstate : c.state = .inMessage) (hcode : c.code = none) :
    scanByte t c b = { c with code := some b, pos := c.pos + 1 } := by
  simp [scanByte, hstate, hcode]

/-- The token closes a message whose code is held (R134). -/
theorem scanByte_closes {code : Byte} (hstate : c.state = .inMessage) (hcode : c.code = some code) :
    scanByte t c sysOpcode =
      { c with state := .seeking, code := none, msgs := c.msgs ++ [⟨code, t.lookup code⟩], pos := c.pos + 1 } := by
  simp [scanByte, hstate, hcode]

/-- Settles O38: the two rows of `Seeking`, and the row of `InMessage` with no code held. -/
theorem scanOpensAndHoldsTheCode : Obligations.ScanOpensAndHoldsTheCode := by
  intro t c b
  refine ⟨?_, scanByte_passes t, scanByte_holdsCode t b⟩
  rintro hstate rfl
  exact scanByte_opens t hstate

/-! ## One transition per byte (R130) -/

/-- A running scan consumes its byte and keeps running: no row of the table leads to `Done` (R130, R135). -/
theorem scanByte_consumes (b : Byte) (hrunning : c.state ≠ .done) :
    (scanByte t c b).pos = c.pos + 1 ∧ (scanByte t c b).state ≠ .done := by
  cases hstate : c.state with
  | done => exact absurd hstate hrunning
  | seeking | inLength =>
    simp only [scanByte, hstate]
    split <;> simp
  | inMessage =>
    cases hcode : c.code with
    | none => simp [scanByte_holdsCode t b hstate hcode, hstate]
    | some code =>
      simp only [scanByte, hstate, hcode]
      split <;> simp

theorem foldl_scanByte_pos (b : Bytes) (hrunning : c.state ≠ .done) :
    (b.foldl (scanByte t) c).pos = c.pos + b.length := by
  induction b generalizing c with
  | nil => rfl
  | cons x b ih =>
    obtain ⟨hpos, hnext⟩ := scanByte_consumes t x hrunning
    rw [List.foldl_cons, ih hnext, hpos, List.length_cons, Nat.add_right_comm, Nat.add_assoc]

/-- The scan ends past the last byte (R130, R136). -/
theorem scan_pos (b : Bytes) : (scan t b).pos = b.length := by
  have hpos := foldl_scanByte_pos t b (c := Scratch.initial) (by decide)
  exact hpos.trans (Nat.zero_add _)

/-- Raw is the verdict of exactly the buffers without a token: with one, the scan finds a message or is malformed (R136). -/
theorem verdict_scan_eq_raw_iff (b : Bytes) : (scan t b).verdict = .raw ↔ sysOpcode ∉ b := by
  refine ⟨fun hraw htoken => ?_, verdict_scan_of_token_not_mem t⟩
  by_cases hmsgs : (scan t b).msgs = []
  · simp [verdict_scan_of_token_mem hmsgs htoken] at hraw
  · simp [Scratch.verdict_messages hmsgs] at hraw

/-! ## Messages back to back (R134) -/

/-- A whole message takes a seeking scan back to `Seeking`, with the message found, whatever its code (R131 to R134). -/
theorem foldl_scanByte_sysFrame (code : Byte) (hstate : c.state = .seeking) :
    (sysFrame code).foldl (scanByte t) c =
      { c with state := .seeking, code := none, entered := true, msgs := c.msgs ++ [⟨code, t.lookup code⟩],
               pos := c.pos + 4 } := by
  simp only [sysFrame, List.foldl_cons, List.foldl_nil]
  rw [scanByte_opens t hstate, scanByte_acceptsLength t rfl, scanByte_holdsCode t code rfl rfl, scanByte_closes t rfl rfl]

/-- Each message of a burst leaves the scan where the next one begins, so all are found in order (R134). -/
theorem foldl_scanByte_sysFrames_msgs (codes : List Byte) (hstate : c.state = .seeking) :
    ((codes.flatMap sysFrame).foldl (scanByte t) c).msgs = c.msgs ++ codes.map fun code => ⟨code, t.lookup code⟩ := by
  induction codes generalizing c with
  | nil => exact (List.append_nil _).symm
  | cons code codes ih =>
    rw [List.flatMap_cons, List.foldl_append, foldl_scanByte_sysFrame t code hstate]
    exact (ih rfl).trans (List.append_assoc _ _ _)

theorem verdict_scan_sysFrames {codes : List Byte} (hne : codes ≠ []) :
    (scan t (codes.flatMap sysFrame)).verdict = .messages (codes.map fun code => ⟨code, t.lookup code⟩) := by
  have hmsgs : (scan t (codes.flatMap sysFrame)).msgs = codes.map fun code => ⟨code, t.lookup code⟩ :=
    foldl_scanByte_sysFrames_msgs t codes (c := Scratch.initial) rfl
  have hfound : (scan t (codes.flatMap sysFrame)).msgs ≠ [] := by simpa [hmsgs] using hne
  rw [Scratch.verdict_messages hfound, hmsgs]

end

/-- Settles O40: one transition per byte, the token decides between Raw and the rest, and bursts go message by message. -/
theorem scanVerdicts : Obligations.ScanVerdicts :=
  ⟨fun t b => ⟨scan_pos t b, rfl, verdict_scan_eq_raw_iff t b⟩, fun t _ hne => verdict_scan_sysFrames t hne⟩

/-- Settles O42: the states after each byte are evaluated; each verdict is that of a burst of one message. -/
theorem sourceScanExamples : Obligations.SourceScanExamples :=
  ⟨by decide, verdict_scan_sysFrames {} (codes := [0x83]) (by decide), by decide,
    verdict_scan_sysFrames {} (codes := [0x90]) (by decide), by decide, by decide⟩

end Sys2Proof.Machine
end

section
/-! PROOFS. The command set family (spec/44_commandset.md R160), the device's answers: how a fresh cycle ends that collects one
system message, and which error a rejecting message is. -/

namespace Sys2Proof.Machine

/-! ## The class of a rejecting message (R142) -/

/-- The classes are apart: a rejecting message is neither a device fault nor unknown, so that, alone, its own error is what
the messages come to (R142). -/
theorem evaluate_nack {m : SysMsg} {e : Raised} (h : nackError m.name = some e) :
    evaluate [m] = .fail e.kind e.info [m] := by
  obtain ⟨code, name⟩ := m
  cases name <;> cases h <;> rfl

/-- No rejection aborts the session (R197, R218). -/
theorem nackError_not_fatal {name : MsgName} {e : Raised} (h : nackError name = some e) : e.kind.isFatal = false := by
  cases name <;> cases h <;> rfl

/-! ## One message in a fresh cycle -/

section
variable {s : State} {code : Byte}

/-- A fresh cycle that collects one message classifies it on the scan path, without samples (R140, R141). -/
theorem State.classified_sysFrame (hover : s.overflow = false) (hbuf : s.rxbuf = sysFrame code)
    (hexpect : s.expect ≠ some 0x18) :
    s.classified = ⟨evaluate [⟨code, s.cfg.msgTable.lookup code⟩], [],
      Scratch.afterMessage ⟨code, s.cfg.msgTable.lookup code⟩⟩ := by
  rw [State.classified, hover, hbuf]
  exact classify_sysFrame _ _ _ _ code _ _ hexpect

/-- A message that comes to a failure ends the fresh cycle with it; only a device fault touches the session (R142, R197). -/
theorem State.burst_sysFrame_fail {name : MsgName} {kind : ErrorKind} {info : ErrInfo} (hfresh : s.FreshCycle)
    (hexpect : s.expect ≠ some 0x18) (hfits : 4 ≤ s.cfg.rxbufMax) (hname : s.cfg.msgTable.lookup code = name)
    (heval : evaluate [⟨code, name⟩] = .fail kind info [⟨code, name⟩]) :
    s.burst (sysFrame code) = { s.collected (sysFrame code) with
      cl := Scratch.afterMessage ⟨code, name⟩,
      acqActive := s.acqActive && !kind.isFatal, abortPending := s.abortPending || kind.isFatal,
      resultOut := s.resultOut ++ [.fail kind info [⟨code, name⟩]],
      errorOut := s.errorOut ++ [⟨kind, info⟩], lastErr := ⟨kind.code, some info⟩ } := by
  have ⟨_, _, hover, _, _⟩ := hfresh
  have hclass := State.classified_sysFrame (code := code)
    (s := { s with rxbuf := sysFrame code, idleCnt := s.idleThreshold }) hover rfl hexpect
  rw [hname, heval] at hclass
  rw [State.burst_fresh hfresh (by simp [sysFrame]) (by simpa [sysFrame] using hfits), State.completeCycle_fail hclass]
  simp [State.collected]

/-- A rejecting message fails the fresh cycle with its error, and the session goes on as it was (R142 item 3, R197). -/
theorem State.burst_sysFrame_nack {name : MsgName} {e : Raised} (hfresh : s.FreshCycle) (hexpect : s.expect ≠ some 0x18)
    (hfits : 4 ≤ s.cfg.rxbufMax) (hname : s.cfg.msgTable.lookup code = name) (hnack : nackError name = some e) :
    s.burst (sysFrame code) = { s.collected (sysFrame code) with
      cl := Scratch.afterMessage ⟨code, name⟩,
      resultOut := s.resultOut ++ [.fail e.kind e.info [⟨code, name⟩]],
      errorOut := s.errorOut ++ [e], lastErr := ⟨e.kind.code, some e.info⟩ } := by
  rw [State.burst_sysFrame_fail hfresh hexpect hfits hname (evaluate_nack hnack)]
  simp [nackError_not_fatal hnack, State.collected]

end

/-- Settles O21: a legal table gives each code back its name, and `nackError` gives the name its error. -/
theorem nackMessageFailsTheCycle : Obligations.NackMessageFailsTheCycle := by
  intro s hfresh hexpect hfits hlegal t
  obtain ⟨hframeNack, htimeout, -, -, hnotExecuted, hunrecognized, -⟩ := MsgTable.lookup_code hlegal
  have hends {code : Byte} {name : MsgName} {e : Raised} (hname : t.lookup code = name) (hnack : nackError name = some e) :=
    State.burst_sysFrame_nack hfresh hexpect hfits hname hnack
  exact ⟨congrArg Host.Outcome.next (hends hframeNack rfl),
    congrArg Host.Outcome.next (hends htimeout rfl),
    congrArg Host.Outcome.next (hends hnotExecuted rfl), congrArg Host.Outcome.next (hends hunrecognized rfl)⟩

end Sys2Proof.Machine
end

section
/-! PROOFS. The session family (spec/46_session.md section 2): what a host-to-device row that passes the refusal tests writes,
and the cycle it starts. First under any legal table, then the frames R70's table gives. -/

namespace Sys2Proof.Machine

/-! ## A command that is sent -/

/-- A command that passes the refusal tests writes its frame and starts its cycle; after it no acquisition runs, for the
stop has ended its own (R191, R192). -/
theorem State.sendCommand_ok {s : State} {cmd : Cmd} (hready : s.phase = .ready) (habort : s.abortPending = false)
    (hanswer : s.txAnswer = .ok) (hacq : s.acqActive = false ∨ cmd = .stopMeas) (f : Bytes) :
    s.sendCommand cmd (.ok f) =
      ({ s with txOut := s.txOut ++ [f], acqActive := false } : State).startCycle (cycleKindOf cmd)
        (some (s.cfg.cmdRow cmd).opcode) (s.cfg.cmdRow cmd).shape := by
  have hidle : (s.acqActive && !decide (cmd = .stopMeas)) = false := by rcases hacq with h | h <;> simp [h]
  rw [State.sendCommand_accepted hready habort hacq, State.sendFrame_ok hanswer, hidle]
  rfl

/-- A command's bytes begin with the opcode of its row, padded or not (R60, R102). -/
theorem encodeCommand_head? (c : Config) (cmd : Cmd) (operands : Bytes) :
    (encodeCommand c cmd operands).head? = some (c.cmdRow cmd).opcode := by
  simp only [encodeCommand]
  split <;> rfl

/-- A row of the catalogue is encoded as its command with some operand bytes (R70). -/
theorem encode_of_catalogueCommand {i : Instr} {cmd : Cmd} (h : catalogueCommand i = some cmd) (c : Config) :
    ∃ operands, encode c i = encodeCommand c cmd operands := by
  cases i with
  | initSetup | addFreqList | startMeas | stopMeas | getNumFreq | getFreqPoint | getFreqList | getDeviceId =>
    cases h; exact ⟨_, rfl⟩
  | _ => cases h

/-- Settles O5: a row of the host is a command of the catalogue, whose row names the cycle, or a raw frame, which names it
itself. -/
theorem acceptedOperationWritesItsEncoding : Obligations.AcceptedOperationWritesItsEncoding := by
  intro s i hc hready habort hanswer hacq hhost hwf
  rcases host_row_cases hhost with ⟨cmd, hcmd⟩ | ⟨sh, opcode, payload, rfl⟩
  · have hacq : s.acqActive = false ∨ cmd = .stopMeas := hacq.imp_right fun hi => by subst hi; cases hcmd; rfl
    obtain ⟨operands, hencode⟩ := encode_of_catalogueCommand hcmd s.cfg
    refine ⟨cycleKindOf cmd, (s.cfg.cmdRow cmd).opcode, (s.cfg.cmdRow cmd).shape, ?_, fun cmd' hcmd' => ?_,
      fun sh opcode payload hi => ?_, ?_⟩
    · rw [hencode, encodeCommand_head?]
    · obtain rfl : cmd = cmd' := Option.some.inj (hcmd.symm.trans hcmd')
      exact ⟨rfl, rfl, rfl⟩
    · subst hi; cases hcmd
    · rw [exec_catalogueCommand hc hwf hcmd, State.sendCommand_ok hready habort hanswer hacq]
      rfl
  · obtain ⟨hfits, hop⟩ : payload.length ≤ 252 ∧ opcode ≠ 0x18 := by simpa [Instr.wellFormed] using hwf
    have hacq : s.acqActive = false := hacq.resolve_right (by simp)
    refine ⟨.command, opcode, sh, rfl, fun cmd hcmd => ?_, fun sh' opcode' payload' hi => ?_, ?_⟩
    · cases hcmd
    · cases hi; exact ⟨rfl, rfl, rfl⟩
    · rw [sendRawStartsItsCycle s sh opcode payload ⟨hready, habort, hacq, hanswer⟩ hop hfits, hacq]
      simp [encode, envelope]

/-! ## The commands of R70's table -/

/-- The row of a command in the table R70 writes. -/
def defaultRow (cmd : Cmd) : CmdRow :=
  ({} : CmdTable).row cmd

theorem cmdRow_of_default {c : Config} (h : c.cmdTable = {}) (cmd : Cmd) : c.cmdRow cmd = defaultRow cmd := by
  rw [Config.cmdRow, h, defaultRow]

/-- The heads of R70's table take two bytes at most, so operands of 250 bytes fit every frame. -/
theorem payloadSize_le_of_default {c : Config} (h : c.cmdTable = {}) {cmd : Cmd} (hwidth : c.operandWidth cmd ≤ 250) :
    c.payloadSize cmd ≤ 252 := by
  have hhead : (defaultRow cmd).head.length ≤ 2 := by cases cmd <;> decide
  rw [Config.payloadSize, cmdRow_of_default h]
  omega

/-- A command whose row has a head is framed under R70's table, whatever its operands and QUERY_PAD. -/
theorem encodeCommand_of_default {c : Config} (h : c.cmdTable = {}) {cmd : Cmd} (hhead : (defaultRow cmd).head ≠ [])
    (operands : Bytes) :
    encodeCommand c cmd operands = envelope (defaultRow cmd).opcode ((defaultRow cmd).head ++ operands) := by
  simp [encodeCommand, cmdRow_of_default h, hhead]

section
variable {s : State} {i : Instr} {cmd : Cmd} {frame : Except EncStop Bytes} {f : Bytes}

/-- A command of R70's table whose frame is built writes it and starts the cycle of its row (R192). -/
theorem exec_of_default (hready : s.phase = .ready) (habort : s.abortPending = false) (hanswer : s.txAnswer = .ok)
    (hacq : s.acqActive = false ∨ cmd = .stopMeas) (htable : s.cfg.cmdTable = {})
    (hrun : exec i s = .next (s.sendCommand cmd frame)) (hframe : frame = .ok (encode s.cfg i))
    (hencode : encode s.cfg i = f) :
    exec i s = .next (({ s with txOut := s.txOut ++ [f], acqActive := false } : State).startCycle (cycleKindOf cmd)
      (some (defaultRow cmd).opcode) (defaultRow cmd).shape) := by
  rw [hrun, hframe, hencode, State.sendCommand_ok hready habort hanswer hacq, cmdRow_of_default htable]

/-- The same where no acquisition runs: `ACQ_ACTIVE` is left as it was. -/
theorem exec_of_canSend (hsend : s.CanSend) (htable : s.cfg.cmdTable = {})
    (hrun : exec i s = .next (s.sendCommand cmd frame)) (hframe : frame = .ok (encode s.cfg i))
    (hencode : encode s.cfg i = f) :
    exec i s = .next (({ s with txOut := s.txOut ++ [f] } : State).startCycle (cycleKindOf cmd)
      (some (defaultRow cmd).opcode) (defaultRow cmd).shape) := by
  obtain ⟨hready, habort, hacq, hanswer⟩ := hsend
  rw [exec_of_default hready habort hanswer (.inl hacq) htable hrun hframe hencode, hacq]

end

/-- Settles O8: the argument list is all of the operands. -/
theorem initSetupStartsItsCycle : Obligations.InitSetupStartsItsCycle := by
  intro s hsend htable
  have hencode := encodeCommand_of_default htable (cmd := .initSetup) (by decide) s.cfg.initSetupArgs
  have hsends (hargs : s.cfg.initSetupArgs.length ≤ 250) :=
    exec_of_canSend hsend htable rfl (frameInitSetup_ok (payloadSize_le_of_default htable hargs)) hencode
  refine ⟨fun hargs => ?_, fun hargs => ?_⟩
  · rw [hsends (by simp [hargs]), hargs]; rfl
  · rw [hsends (by simp [hargs]), hargs]; rfl

/-- Settles O9, field by field of R67. -/
theorem addFreqListStartsItsCycle : Obligations.AddFreqListStartsItsCycle := by
  intro s sp hsend htable hlegal
  simp only [SweepSpec.legal, Bool.and_eq_true, Bool.or_eq_true, decide_eq_true_eq] at hlegal
  obtain ⟨⟨⟨hsome, hsteps⟩, hdelay⟩, horder⟩ := hlegal
  have hsize := payloadSize_le_of_default htable (cmd := .addFreqList) (by simp [Config.operandWidth])
  refine exec_of_canSend hsend htable rfl (frameAddFreqList_ok hsize hsome hsteps hdelay horder) ?_
  rw [encode, encodeCommand_of_default htable (by decide)]
  simp [envelope, defaultRow, CmdTable.row, CmdRow.head, encodeSweep, encF32_eq, beBytes_one]

/-- Settles O10: the repeat count's two bytes stand behind the row's fixed zero. -/
theorem startMeasStartsItsCycle : Obligations.StartMeasStartsItsCycle := by
  intro s rep hsend htable hrep
  have hsize := payloadSize_le_of_default htable (cmd := .startMeas) (by simp [Config.operandWidth])
  refine exec_of_canSend hsend htable rfl (frameStartMeas_ok hsize hrep) ?_
  have hlow : BitVec.ofNat 8 (rep % 256) = BitVec.ofNat 8 rep := by bv_omega
  rw [encode, encodeCommand_of_default htable (by decide), hlow]
  rfl

/-- Settles O11: the stop is the command an acquisition does not refuse. -/
theorem stopMeasStartsItsCycle : Obligations.StopMeasStartsItsCycle := by
  intro s hready habort hanswer htable
  have hsize := payloadSize_le_of_default htable (cmd := .stopMeas) (by simp [Config.operandWidth])
  exact exec_of_default hready habort hanswer (.inr rfl) htable rfl (frameStopMeas_ok hsize)
    (encodeCommand_of_default htable (by decide) [])

/-- Settles O12: two queries have a sub-opcode, and the third is the one QUERY_PAD pads. -/
theorem queriesStartTheirCycle : Obligations.QueriesStartTheirCycle := by
  intro s hsend htable
  have hsize {cmd : Cmd} := payloadSize_le_of_default htable (cmd := cmd)
  have hdeviceId {f : Bytes} (hencode : encode s.cfg .getDeviceId = f) :=
    exec_of_canSend hsend htable rfl (frameGetDeviceId_ok (hsize (Nat.zero_le _))) hencode
  refine ⟨?_, ?_, fun hpad => ?_, fun hpad => ?_⟩
  · exact exec_of_canSend hsend htable rfl (frameGetNumFreq_ok (hsize (Nat.zero_le _)))
      (encodeCommand_of_default htable (by decide) [])
  · exact exec_of_canSend hsend htable rfl (frameGetFreqList_ok (hsize (Nat.zero_le _)))
      (encodeCommand_of_default htable (by decide) [])
  · exact hdeviceId (by rw [encode, encodeCommand, cmdRow_of_default htable, hpad]; rfl)
  · exact hdeviceId (by rw [encode, encodeCommand, cmdRow_of_default htable, hpad]; rfl)

/-- Settles O13: the row number is `ROW_WIDTH` bytes behind the sub-opcode; at four it is the bytes of a word. -/
theorem getFreqPointStartsItsCycle : Obligations.GetFreqPointStartsItsCycle := by
  intro s row hsend htable
  have hsends {w : Nat} {bytes : Bytes} (hwidth : s.cfg.rowWidth = w) (hw : w = 1 ∨ w = 2 ∨ w = 4)
      (hrow : row < 256 ^ w) (hbytes : beBytes w row = bytes) :=
    have hfits : s.cfg.operandWidth .getFreqPoint ≤ 250 := by simp only [Config.operandWidth]; omega
    have hencode : encode s.cfg (.getFreqPoint row) = envelope 0xB7 ([0x02] ++ bytes) := by
      rw [← hbytes, ← hwidth]
      exact encodeCommand_of_default htable (by decide) _
    exec_of_canSend hsend htable rfl
      (frameGetFreqPoint_ok (payloadSize_le_of_default htable hfits) (hwidth ▸ hw) (hwidth ▸ hrow)) hencode
  refine ⟨fun hwidth hrow => ?_, fun hwidth hrow => ?_, fun hwidth hrow => ?_⟩
  · have hbyte : beBytes 1 row = [BitVec.ofNat 8 row] := by simp [beBytes]
    exact hsends hwidth (by decide) hrow hbyte
  · have hlow : BitVec.ofNat 8 (row % 256) = BitVec.ofNat 8 row := by bv_omega
    have hbytes : beBytes 2 row = [BitVec.ofNat 8 (row / 256), BitVec.ofNat 8 (row % 256)] := by simp [beBytes, hlow]
    exact hsends hwidth (by decide) hrow hbytes
  · have hword : beBytes 4 row = encF32 (BitVec.ofNat 32 row) := by
      rw [encF32_eq, beBytes_toNat_ofNat (by decide)]
    exact hsends hwidth (by decide) hrow hword

end Sys2Proof.Machine
end

section
/-! PROOFS. The exceptions family (spec/60_exceptions.md): how an outcome is delivered, what every step keeps of the error
stream and `LAST_ERR`, and what an abort that waits for its acknowledgment stops. -/

namespace Sys2Proof.Machine

/-! ## Delivery -/

/-- An outcome that is no failure stands on `RESULT_OUT` alone (R225). -/
theorem State.deliver_of_not_fail (s : State) {o : Report} (h : ∀ err info msgs, o ≠ .fail err info msgs) :
    s.deliver o = s.emit o := by
  cases o with
  | fail err info msgs => exact absurd rfl (h err info msgs)
  | ack | data | notice | rawUnclassified | nothing | refused | done | status => rfl

/-- Settles O52, by whether the outcome is a failure. -/
theorem deliveryOfAnOutcome : Obligations.DeliveryOfAnOutcome := by
  refine ⟨by decide, fun s o => ⟨?_, s.deliver_of_not_fail⟩⟩
  rintro err info msgs rfl
  exact s.deliver_fail_eq err info msgs

/-! ## A row of the device -/

/-- A timestamp of four bytes is encoded from the 40 bits a sample holds (R13, R184). -/
theorem toNat_timestamp_ms4 (time : BitVec 32) : (time.setWidth 40).toNat = time.toNat :=
  BitVec.toNat_setWidth_of_le (by decide)

/-- A row of the device is the burst of its encoding, in every state (R9, R140). -/
theorem exec_device_eq_burst (s : State) {i : Instr} (hi : i.fromDevice = true) :
    exec i s = .next (s.burst (encode s.cfg i)) := by
  cases i with
  | initSetup | addFreqList | startMeas | stopMeas | getNumFreq | getFreqPoint | getFreqList | getDeviceId => cases hi
  | frame dir opcode payload =>
    cases dir with
    | send shape => cases hi
    | receive => rfl
  | sampleMs4Absent pointId time re im =>
    rw [encode, ← toNat_timestamp_ms4 time]
    rfl
  | sampleMs4Present pointId time range re im =>
    rw [encode, ← toNat_timestamp_ms4 time]
    rfl
  | _ => rfl

/-- Settles O27: in `Ready` the bytes of a burst wait. -/
theorem deviceRowInReadyWaits : Obligations.DeviceRowInReadyWaits := by
  intro s i hready hdevice
  rw [exec_device_eq_burst s hdevice, State.burst_ready hready]
  rfl

/-! ## What reads keep

The induction over the reads of a burst, once for every property of the state: it is enough that each of the five things a
read or a burst can come to keeps the property. -/

/-- `P` is kept by bytes read, by an empty read counted, by the two ends of a cycle, and by bytes that wait. -/
structure KeptByReads (P : State → Prop) : Prop where
  takesBytes : ∀ {s : State} (bs : Bytes), P s → P (s.drainTransport.readData bs)
  counts : ∀ {s : State}, P s → P s.countIdle
  completes : ∀ {s : State}, P s → P s.completeCycle
  fails : ∀ {s : State}, P s → P s.readFail
  holds : ∀ {s : State} (bs : Bytes), P s → P (s.hold bs)

section
variable {P : State → Prop} {s : State}

theorem KeptByReads.readStep (hP : KeptByReads P) (h : P s) (a : ReadAnswer) : P (s.readStep a) := by
  rcases s.readStep_cases a with ⟨bs, -, e⟩ | ⟨-, e⟩ | ⟨-, e⟩ <;> rw [e]
  · exact hP.takesBytes bs h
  · rcases s.readEmpty_cases with ⟨-, e'⟩ | ⟨-, e'⟩ <;> rw [e']
    · exact hP.counts h
    · exact hP.completes (hP.counts h)
  · exact hP.fails h

theorem KeptByReads.idleReads (hP : KeptByReads P) (h : P s) (n : Nat) : P (State.idleReads n s) := by
  induction n generalizing s with
  | zero => exact h
  | succ n ih =>
    unfold State.idleReads
    split
    · exact ih (hP.readStep h .empty)
    · exact h

theorem KeptByReads.runRead (hP : KeptByReads P) (h : P s) (a : ReadAnswer) : P (s.runRead a) := by
  unfold State.runRead
  split
  · exact hP.readStep h a
  · cases a with
    | data bs => exact hP.holds bs h
    | empty | fail => exact h

theorem KeptByReads.burst (hP : KeptByReads P) (h : P s) (bs : Bytes) : P (s.burst bs) := by
  rw [State.burst_eq_idleReads]
  exact hP.idleReads (hP.runRead h _) _

end

/-! ## The error stream and `LAST_ERR` -/

@[simp] theorem failsOf_append (rs rs' : List Report) : failsOf (rs ++ rs') = failsOf rs ++ failsOf rs' :=
  List.filterMap_append

@[simp] theorem failsOf_fail (err : ErrorKind) (info : ErrInfo) (msgs : List SysMsg) :
    failsOf [.fail err info msgs] = [⟨err, info⟩] := rfl

theorem failsOf_of_not_fail {o : Report} (h : ∀ err info msgs, o ≠ .fail err info msgs) : failsOf [o] = [] := by
  cases o with
  | fail err info msgs => exact absurd rfl (h err info msgs)
  | ack | data | notice | rawUnclassified | nothing | refused | done | status => rfl

@[simp] theorem lastErrOf_concat (es : List Raised) (e : Raised) :
    lastErrOf (es ++ [e]) = ⟨e.kind.code, some e.info⟩ := by
  simp [lastErrOf]

/-- The two things R225 and R28 say of the error registers, together. -/
def State.ErrorsAgree (s : State) : Prop :=
  s.ErrorsSurfaced ∧ s.LastErrCurrent

section
variable {s t : State}

/-- `ErrorsAgree` looks at three registers. -/
theorem State.ErrorsAgree.of_same (h : s.ErrorsAgree) (hout : t.resultOut = s.resultOut)
    (herrors : t.errorOut = s.errorOut) (hlast : t.lastErr = s.lastErr) : t.ErrorsAgree := by
  simpa only [State.ErrorsAgree, State.ErrorsSurfaced, State.LastErrCurrent, hout, herrors, hlast] using h

/-- An outcome that is no failure adds nothing to what must agree (R225). -/
theorem State.ErrorsAgree.emit (h : s.ErrorsAgree) {o : Report} (ho : ∀ err info msgs, o ≠ .fail err info msgs) :
    (s.emit o).ErrorsAgree := by
  simpa [State.ErrorsAgree, State.ErrorsSurfaced, State.LastErrCurrent, failsOf_of_not_fail ho] using h

/-- A delivered failure joins both streams and becomes the last error (R225): every error is surfaced exactly once. -/
theorem State.ErrorsAgree.deliver (h : s.ErrorsAgree) (o : Report) : (s.deliver o).ErrorsAgree := by
  by_cases ho : ∀ err info msgs, o ≠ .fail err info msgs
  · rw [s.deliver_of_not_fail ho]
    exact h.emit ho
  · push Not at ho
    obtain ⟨err, info, msgs, rfl⟩ := ho
    obtain ⟨hsurfaced, -⟩ := h
    rw [s.deliver_fail_eq]
    exact ⟨by simp [State.ErrorsSurfaced, hsurfaced], .inl (by simp)⟩

theorem State.ErrorsAgree.decline (h : s.ErrorsAgree) (r : RefuseReason) : (s.decline r).ErrorsAgree :=
  h.emit (by simp)

/-- The acknowledgment clears `LAST_ERR` and leaves the streams (R202). -/
theorem State.ErrorsAgree.ackAbort (h : s.ErrorsAgree) : s.ackAbort.ErrorsAgree :=
  have ⟨hsurfaced, _⟩ := h
  ⟨hsurfaced, .inr rfl⟩

theorem State.ErrorsAgree.guarded (h : s.ErrorsAgree) (op : OpClass) {perform : State → State}
    (hperform : (perform s).ErrorsAgree) : (s.guarded op perform).ErrorsAgree := by
  rcases s.guarded_cases op perform with ⟨r, -, e⟩ | ⟨-, e⟩ <;> rw [e]
  · exact h.decline r
  · exact hperform

theorem State.ErrorsAgree.sendFrame (h : s.ErrorsAgree) (frame : Except EncStop Bytes) (stops : Bool) (kind : CycleKind)
    (opcode : Byte) (shape : ReplyShape) : (s.sendFrame frame stops kind opcode shape).ErrorsAgree := by
  rcases s.sendFrame_cases frame stops kind opcode shape with ⟨r, e⟩ | ⟨err, info, e⟩ | ⟨f, -, -, e⟩ <;> rw [e]
  · exact h.decline r
  · exact h.deliver _
  · exact h.of_same rfl rfl rfl

/-- The end of a cycle delivers its outcome; the flags and the samples it writes first are none of the three (R120). -/
theorem State.ErrorsAgree.completeCycle (h : s.ErrorsAgree) : s.completeCycle.ErrorsAgree := by
  have heffects : ((s.recordClassified s.classified).applyEffects s.classified.report).ErrorsAgree :=
    h.of_same (by simp) (by simp) (by simp)
  exact (heffects.deliver _).of_same rfl rfl rfl

/-- A failed read delivers its error, in an acquisition after the abort (R121). -/
theorem State.ErrorsAgree.readFail (h : s.ErrorsAgree) : s.readFail.ErrorsAgree := by
  have hbefore : (if s.inAcquisition then ({ s with rxbuf := [] } : State).abortSession
      else { s with rxbuf := [] }).ErrorsAgree := by
    split <;> exact h.of_same rfl rfl rfl
  exact (hbefore.deliver _).of_same rfl rfl rfl

theorem errorsAgree_keptByReads : KeptByReads State.ErrorsAgree where
  takesBytes _ h := h.of_same (by simp) (by simp) (by simp)
  counts h := h.of_same rfl rfl rfl
  completes h := h.completeCycle
  fails h := h.readFail
  holds _ h := h.of_same rfl rfl rfl

theorem State.ErrorsAgree.runQuiet (h : s.ErrorsAgree) : s.runQuiet.ErrorsAgree := by
  unfold State.runQuiet
  split
  · exact h.of_same rfl rfl rfl
  · exact h

/-- An operation without a wire form reports no failure, and only the acknowledgment writes `LAST_ERR` (R196, R200 to
R203). -/
theorem State.ErrorsAgree.runLocal (h : s.ErrorsAgree) (o : LocalOp) : (s.runLocal o).ErrorsAgree := by
  rw [State.runLocal_eq_guarded]
  refine h.guarded _ ?_
  cases o with
  | listen => exact h.of_same rfl rfl rfl
  | setReplyFormat ts cr =>
    exact (h.of_same (t := s.writeFormat (tsModeOf ts) (crModeOf cr)) rfl rfl rfl).emit (by simp)
  | setIdleThreshold n => exact (h.of_same (t := s.writeThreshold n) rfl rfl rfl).emit (by simp)
  | ackAbort => exact h.ackAbort.emit (by simp)
  | readStatus => exact h.emit (by simp)

/-- The reset empties the streams and clears `LAST_ERR` together (R250). -/
theorem State.errorsAgree_resetBlock (s : State) : s.resetBlock.ErrorsAgree :=
  ⟨rfl, .inr rfl⟩

end

/-- Settles O55, by the moves a step can make: each failure comes from `deliver`. -/
theorem everyStepKeepsErrorsSurfaced : Obligations.EveryStepKeepsErrorsSurfaced := by
  intro s t hsurfaced hcurrent hstep
  obtain ⟨l, n, a, u, hu, hmove⟩ := step_moves hstep
  have h : u.ErrorsAgree := hu ▸ ⟨hsurfaced, hcurrent⟩
  rcases hmove with ⟨cmd, frame, rfl⟩ | ⟨opcode, payload, shape, rfl⟩ | ⟨bs, rfl⟩ | rfl | ⟨o, -, rfl⟩ | ⟨ans, rfl⟩ |
    ⟨-, rfl⟩
  · exact h.guarded _ (h.sendFrame _ _ _ _ _)
  · exact h.guarded _ (h.sendFrame _ _ _ _ _)
  · exact errorsAgree_keptByReads.burst h bs
  · exact h.runQuiet
  · exact h.runLocal o
  · exact errorsAgree_keptByReads.runRead h ans
  · exact u.errorsAgree_resetBlock

/-! ## An abort that waits for its acknowledgment -/

section
variable {s : State}

/-- What would transmit is refused while an abort is pending, if by no earlier test (R191 test 2). -/
theorem State.guarded_of_abortPending (h : s.abortPending = true) {op : OpClass} (hop : op.transmits = true)
    (perform : State → State) : ∃ r, s.guarded op perform = s.decline r := by
  rcases s.guarded_cases op perform with ⟨r, -, e⟩ | ⟨haccepted, -⟩
  · exact ⟨r, e⟩
  · obtain ⟨-, hquiet, -, -⟩ := (s.refusal_eq_none op).mp haccepted
    simp [hquiet h] at hop

theorem State.sendCommand_of_abortPending (h : s.abortPending = true) (cmd : Cmd) (frame : Except EncStop Bytes) :
    ∃ r, s.sendCommand cmd frame = s.decline r :=
  State.guarded_of_abortPending h (by split <;> rfl) _

theorem sendRaw_of_abortPending (h : s.abortPending = true) (opcode : Byte) (payload : Bytes) (shape : ReplyShape) :
    ∃ r, sendRaw opcode payload shape s = s.decline r :=
  State.guarded_of_abortPending h rfl _

/-- The end of a cycle may set `ABORT_PENDING`, and never clears it (R197). -/
theorem State.completeCycle_abortPending (h : s.abortPending = true) : s.completeCycle.abortPending = true := by
  rcases s.completeCycle_flags with ⟨-, hkept⟩ | ⟨-, hset⟩ | ⟨-, -, hkept⟩
  · exact hkept.trans h
  · exact hset
  · exact hkept.trans h

theorem State.readFail_abortPending (h : s.abortPending = true) : s.readFail.abortPending = true := by
  unfold State.readFail
  cases s.inAcquisition <;> simp [h]

theorem abortPending_keptByReads : KeptByReads fun s => s.abortPending = true where
  takesBytes _ h := by simpa using h
  counts h := h
  completes h := State.completeCycle_abortPending h
  fails h := State.readFail_abortPending h
  holds _ h := h

/-- The acquisition step starts a cycle, and touches no flag (R199). -/
@[simp] theorem State.runQuiet_abortPending (s : State) : s.runQuiet.abortPending = s.abortPending := by
  unfold State.runQuiet State.acqStep
  split <;> simp

/-- Of the operations without a wire form only the acknowledgment clears an abort (R202). -/
theorem State.runLocal_abortPending (h : s.abortPending = true) (o : LocalOp) :
    (s.runLocal o).abortPending = true ∨ o = .ackAbort := by
  rw [State.runLocal_eq_guarded]
  rcases s.guarded_cases (localOpClass o) (State.performLocal o) with ⟨r, -, e⟩ | ⟨-, e⟩ <;> rw [e]
  · exact .inl (by simpa using h)
  · cases o with
    | ackAbort => exact .inr rfl
    | listen | setReplyFormat | setIdleThreshold | readStatus => exact .inl h

end

/-- Settles O59: whatever would send is refused, and of the other moves only the acknowledgment clears the abort. -/
theorem nothingIsSentUntilTheAbortIsAcknowledged : Obligations.NothingIsSentUntilTheAbortIsAcknowledged := by
  intro s t habort hstep hne
  obtain ⟨l, n, a, u, hu, hmove⟩ := step_moves hstep
  have h : u.abortPending = true := hu ▸ habort
  have hout : u.txOut = s.txOut := hu ▸ rfl
  rw [← hout]
  rcases hmove with ⟨cmd, frame, rfl⟩ | ⟨opcode, payload, shape, rfl⟩ | ⟨bs, rfl⟩ | rfl | ⟨o, hin, rfl⟩ | ⟨ans, rfl⟩ |
    ⟨hin, -⟩
  · obtain ⟨r, e⟩ := State.sendCommand_of_abortPending h cmd frame
    exact ⟨by simp [e], .inl (by simp [e, h])⟩
  · obtain ⟨r, e⟩ := sendRaw_of_abortPending h opcode payload shape
    exact ⟨by simp [e], .inl (by simp [e, h])⟩
  · exact ⟨u.burst_txOut bs, .inl (abortPending_keptByReads.burst h bs)⟩
  · exact ⟨u.runQuiet_txOut, .inl (u.runQuiet_abortPending.trans h)⟩
  · exact ⟨u.runLocal_txOut o, (State.runLocal_abortPending h o).imp_right fun ho => by rw [hin, ho]⟩
  · exact ⟨u.runRead_txOut ans, .inl (abortPending_keptByReads.runRead h ans)⟩
  · exact absurd hin hne

end Sys2Proof.Machine
end

section
/-! PROOFS. The hazards family (spec/70_reset_and_hazards.md): an operation presented while a cycle collects (R269), and a
stream of bytes without a gap (R261). -/

namespace Sys2Proof.Machine

/-! ## An operation during `Collect` -/

/-- Every row of the host stands behind the refusal tests (R191, R193). -/
theorem exec_host_eq_guarded (s : State) {i : Instr} (hi : i.fromDevice = false) :
    ∃ op perform, exec i s = .next (s.guarded op perform) := by
  cases i with
  | initSetup | addFreqList | startMeas | stopMeas | getNumFreq | getFreqPoint | getFreqList | getDeviceId =>
    exact ⟨_, _, rfl⟩
  | frame dir opcode payload =>
    cases dir with
    | send shape => exact ⟨_, _, rfl⟩
    | receive => cases hi
  | _ => cases hi

/-- Test 1 of R191 for a row of the host (R269). -/
theorem exec_host_of_collect {s : State} (hp : s.phase = .collect) {i : Instr} (hi : i.fromDevice = false) :
    exec i s = .next (s.decline .busy) := by
  obtain ⟨op, perform, e⟩ := exec_host_eq_guarded s hi
  rw [e, State.guarded_of_some (State.refusal_collect hp op)]

/-- Test 1 of R191 for an operation without a wire form (R269). -/
theorem State.runLocal_of_collect {s : State} (hp : s.phase = .collect) (o : LocalOp) :
    s.runLocal o = s.decline .busy := by
  rw [State.runLocal_eq_guarded, State.guarded_of_some (State.refusal_collect hp _)]

/-- A step on an operation laid down runs it, with the transport's answer to a write set (R30, R31). -/
theorem step_op {s : State} {i : Instr} {ans : TxAnswer} {rest : List Input} (h : s.script = .op i ans :: rest) :
    step s = exec i (({ s with script := rest } : State).withTxAnswer ans) := by
  simp [step, State.nextInput, State.takeInput, h, State.fetch]

/-- A step on an operation without a wire form laid down is that operation (R190). -/
theorem step_localOp {s : State} {o : LocalOp} {rest : List Input} (h : s.script = .localOp o :: rest) :
    step s = .next (({ s with script := rest } : State).runLocal o) := by
  simp [step, State.nextInput, State.takeInput, h, State.fetch]

/-- Settles O17: the first refusal test stops every operation, on the state its input was taken from. -/
theorem operationDuringCollectIsDropped : Obligations.OperationDuringCollectIsDropped := by
  intro s rest hp
  refine ⟨fun i hi => exec_host_of_collect hp hi, fun i ans hi hs => ?_, fun o hs => ?_⟩
  · rw [step_op hs]
    exact exec_host_of_collect (by exact hp) hi
  · rw [step_localOp hs]
    exact congrArg Host.Outcome.next (State.runLocal_of_collect (by exact hp) o)

/-! ## A read over bytes the transport held

The first read of a run returns the bytes the transport held as well. It is the read of a drained transport with the answer
`transportRead` makes of the two, so that what a running cycle gathers from a drained transport says the rest. -/

section
variable {a : ReadAnswer}

theorem dataOf_cons (a : ReadAnswer) (as : List ReadAnswer) : dataOf (a :: as) = dataOf [a] ++ dataOf as := by
  simp [dataOf]

/-- Among the answers that can be, only the empty one brings nothing. -/
theorem dataOf_singleton_eq_nil_iff (ha : a ≠ .fail ∧ a ≠ .data []) : dataOf [a] = [] ↔ a = .empty := by
  cases a with
  | fail => exact absurd rfl ha.1
  | empty => simp [dataOf]
  | data bs => simpa [dataOf] using ha.2

/-- A read that does not fail returns the held bytes and then the new ones, and is an empty one if there are none (R32, R39,
R44). -/
theorem transportRead_eq (w : Bytes) (ha : a ≠ .fail) :
    transportRead w a = if w ++ dataOf [a] = [] then .empty else .data (w ++ dataOf [a]) := by
  cases a with
  | fail => exact absurd rfl ha
  | empty => simp [transportRead, dataOf]
  | data bs => simp [transportRead, dataOf]

/-- Held bytes in front keep an answer one of those that can be (R32). -/
theorem transportRead_usable (w : Bytes) (ha : a ≠ .fail) : transportRead w a ≠ .fail ∧ transportRead w a ≠ .data [] := by
  rw [transportRead_eq w ha]
  split <;> simp_all

/-- A read is an empty one only if the transport held nothing before it (R39, R119). -/
theorem transportRead_eq_empty_iff (w : Bytes) (ha : a ≠ .fail ∧ a ≠ .data []) :
    transportRead w a = .empty ↔ w = [] ∧ a = .empty := by
  rw [transportRead_eq w ha.1, ← dataOf_singleton_eq_nil_iff ha, ← List.append_eq_nil_iff]
  split <;> simp_all

/-- Held bytes are delivered ahead of the new ones (R39, R44). -/
theorem dataOf_transportRead (w : Bytes) (ha : a ≠ .fail) (as : List ReadAnswer) :
    dataOf (transportRead w a :: as) = w ++ dataOf (a :: as) := by
  have hread : dataOf [transportRead w a] = w ++ dataOf [a] := by
    rw [transportRead_eq w ha]
    split
    · next hnone => exact hnone.symm
    · simp [dataOf]
  rw [dataOf_cons, hread, List.append_assoc, ← dataOf_cons]

/-- A read that does not fail leaves the transport drained, and is the read of a drained one. -/
theorem State.readStep_eq_drained (s : State) (ha : a ≠ .fail) :
    s.readStep a = s.drainTransport.readStep (transportRead s.waiting a) := by
  rw [State.readStep, transportRead_eq _ ha]
  split_ifs with hnone
  · obtain ⟨hw, -⟩ := List.append_eq_nil_iff.mp hnone
    have hdrained : s.drainTransport = s := by simp [State.drainTransport, ← hw]
    rw [hdrained, State.readStep_empty hw]
  · rw [State.readStep_data (by simpa using hnone)]
    rfl

end

/-! ## A stream without a gap -/

/-- Whether the first answer is an empty one is all the count takes from it. -/
theorem idleRun_cons_congr {a b : ReadAnswer} (h : a = .empty ↔ b = .empty) (n : Nat) (as : List ReadAnswer) :
    idleRun n (a :: as) = idleRun n (b :: as) := by
  simp [idleRun, h]

/-- Where a run, the empty answers counted before it among them, never holds `n` empty ones in a row, the count stays below
`n` all along it. -/
theorem idleRun_lt_of_no_gap {n c : Nat} {as p : List ReadAnswer}
    (hgap : ¬ (List.replicate n .empty <:+: List.replicate c .empty ++ as)) (hp : p <+: as) : idleRun c p < n := by
  rw [← Nat.not_le, le_idleRun_iff]
  exact fun hends => hgap (hends.isInfix.trans ((List.prefix_append_right_inj _).mpr hp).isInfix)

/-- A running cycle gathers a stream without a gap, the bytes the transport held in front. It is enough that the stream `f`
begins with an empty answer exactly if the first read is an empty one. -/
theorem run_without_gap {s : State} {a f : ReadAnswer} {as : List ReadAnswer} (hp : s.phase = .collect)
    (hm : s.memWf = true) (ha : ∀ b ∈ a :: as, b ≠ .fail ∧ b ≠ .data [])
    (hf : f = .empty ↔ s.waiting = [] ∧ a = .empty)
    (hgap : ¬ (List.replicate s.idleThreshold .empty <:+: List.replicate s.idleCnt .empty ++ f :: as)) :
    Host.Core.run core (a :: as).length (s.reading (a :: as)) =
      .next ((s.drainTransport.gathered (transportRead s.waiting a :: as)).reading []) := by
  obtain ⟨hfirst, hrest⟩ := List.forall_mem_cons.mp ha
  have hsame : f = .empty ↔ transportRead s.waiting a = .empty := hf.trans (transportRead_eq_empty_iff _ hfirst).symm
  have hbelow : ∀ p, p <+: transportRead s.waiting a :: as → idleRun s.idleCnt p < s.idleThreshold := by
    intro p hpre
    rcases List.prefix_cons_iff.mp hpre with rfl | ⟨q, rfl, hq⟩
    · exact idleRun_lt_of_no_gap hgap List.nil_prefix
    · rw [← idleRun_cons_congr hsame]
      exact idleRun_lt_of_no_gap hgap (List.cons_prefix_cons.mpr ⟨rfl, hq⟩)
  have husable : ∀ b ∈ transportRead s.waiting a :: as, b ≠ .fail ∧ b ≠ .data [] :=
    List.forall_mem_cons.mpr ⟨transportRead_usable s.waiting hfirst.1, hrest⟩
  have hrun := run_gathered (s := s.drainTransport) hp hm rfl [] husable hbelow
  rw [List.append_nil, List.length_cons, run_next _ (step_reading_cons _ _ _), State.runRead_collect (by exact hp)] at hrun
  rw [List.length_cons, run_next _ (step_reading_cons _ _ _), State.runRead_collect hp, State.readStep_eq_drained s hfirst.1,
    hrun]

/-- Settles O44: a running cycle gathers such a stream, and goes on refusing what is presented. -/
theorem streamWithoutGapNeverEndsTheCycle : Obligations.StreamWithoutGapNeverEndsTheCycle := by
  intro s as hp hm ha found hgap
  cases as with
  | nil =>
    exact ⟨s.reading [], rfl, hp, fun h => absurd rfl h, rfl, rfl, rfl, rfl,
      fun i hi => exec_host_of_collect (by exact hp) hi, State.runLocal_of_collect (by exact hp)⟩
  | cons a as =>
    obtain ⟨hnotFail, -⟩ := ha a List.mem_cons_self
    obtain ⟨f, hfound, hf⟩ : ∃ f, found = f :: as ∧ (f = .empty ↔ s.waiting = [] ∧ a = .empty) := by
      by_cases hheld : s.waiting ≠ [] ∧ a = .empty
      · exact ⟨.data s.waiting, by simp [found, hheld], by simp [hheld]⟩
      · exact ⟨a, by simp [found, hheld], by tauto⟩
    rw [hfound] at hgap
    refine ⟨_, run_without_gap hp hm ha hf hgap, hp, fun _ => ?_, rfl, rfl, rfl, rfl,
      fun i hi => exec_host_of_collect (by exact hp) hi, State.runLocal_of_collect (by exact hp)⟩
    rw [List.append_assoc, ← dataOf_transportRead _ hnotFail]
    rfl

end Sys2Proof.Machine
end

section
/-! PROOFS. The session invariants (spec/46_session.md R204): each shared operation keeps them, so every step does. -/

namespace Sys2Proof.Machine

/-! ## Between two cycles -/

section
variable {s t : State}

/-- In `Ready` three clauses speak: an abort leaves no acquisition, the threshold is legal, the buffer is within bounds. The
others are about a running cycle (R204). -/
theorem State.inv_of_ready (hp : s.phase = .ready) (habort : s.AbortEndsAcquisition) (hidle : s.ThresholdLegal)
    (hmem : s.memWf = true) : s.Inv := by
  refine ⟨habort, ?_, ?_, ?_, hidle, hmem, ?_⟩ <;> simp [hp]

/-- The invariants look at eight registers. -/
theorem State.inv_congr (hphase : t.phase = s.phase) (hkind : t.cycleKind = s.cycleKind) (hacq : t.acqActive = s.acqActive)
    (habort : t.abortPending = s.abortPending) (hcnt : t.idleCnt = s.idleCnt) (hidle : t.idleThreshold = s.idleThreshold)
    (hbuf : t.rxbuf = s.rxbuf) (hcfg : t.cfg = s.cfg) : t.Inv ↔ s.Inv := by
  simp only [State.Inv, State.AbortEndsAcquisition, State.AcquisitionCycleActive, State.OtherCycleInactive,
    State.IdleBelowThreshold, State.ThresholdLegal, State.memWf, State.StartCycleClear, *]

/-- A delivered outcome is none of them (R225). -/
theorem State.Inv.deliver (h : s.Inv) (o : Report) : (s.deliver o).Inv :=
  (State.inv_congr (by simp) (by simp) (by simp) (by simp) (by simp) (by simp) (by simp) (by simp)).mpr h

theorem State.Inv.emit (h : s.Inv) (o : Report) : (s.emit o).Inv :=
  (State.inv_congr rfl rfl rfl rfl rfl rfl rfl rfl).mpr h

theorem State.Inv.decline (h : s.Inv) (r : RefuseReason) : (s.decline r).Inv :=
  h.emit _

/-! ## The start of a cycle -/

/-- A cycle starts with the invariants if its kind agrees with `ACQ_ACTIVE`, and if no abort is pending where it may start an
acquisition (R116, R204). -/
theorem State.Inv.startCycle (h : s.Inv) {kind : CycleKind} (hkind : kind = .acquisition ↔ s.acqActive = true)
    (hstart : kind = .startCommand → s.abortPending = false) (expect : Option Byte) (shape : ReplyShape) :
    (s.startCycle kind expect shape).Inv := by
  obtain ⟨habort, _, _, _, hidle, _, _⟩ := h
  refine ⟨habort, fun _ hk => hkind.mp hk, fun _ hk => ?_, fun _ => hidle.1, hidle, s.startCycle_memWf kind expect shape,
    fun _ hk => hstart hk⟩
  exact Bool.eq_false_iff.mpr fun hactive => hk (hkind.mpr hactive)

/-- Behind the refusal tests it is enough to keep the invariants in `Ready`, where the tests have passed (R191). -/
theorem State.Inv.guarded (h : s.Inv) (op : OpClass) {perform : State → State}
    (hperform : s.refusal op = none → (perform s).Inv) : (s.guarded op perform).Inv := by
  rcases s.guarded_cases op perform with ⟨r, -, e⟩ | ⟨haccepted, e⟩ <;> rw [e]
  · exact h.decline r
  · exact hperform haccepted

/-- Sending starts no acquisition cycle. It needs that the stop alone is sent while an acquisition runs, and nothing while an
abort is pending (R191, R192). -/
theorem State.Inv.sendFrame (h : s.Inv) {kind : CycleKind} {stops : Bool} (hkind : kind ≠ .acquisition)
    (hacq : s.acqActive = true → stops = true) (habort : s.abortPending = false) (frame : Except EncStop Bytes)
    (opcode : Byte) (shape : ReplyShape) : (s.sendFrame frame stops kind opcode shape).Inv := by
  rcases s.sendFrame_cases frame stops kind opcode shape with ⟨r, e⟩ | ⟨k, i, e⟩ | ⟨f, -, -, e⟩ <;> rw [e]
  · exact h.decline r
  · exact h.deliver _
  · have hclear : (s.acqActive && !stops) = false := by cases hs : s.acqActive <;> simp [hs, hacq]
    obtain ⟨-, -, -, -, hidle, -, -⟩ := h
    refine ⟨fun _ => hclear, ?_, fun _ _ => hclear, fun _ => hidle.1, hidle, ?_, fun _ _ => habort⟩
    · exact fun _ hk => absurd hk hkind
    · exact State.startCycle_memWf _ kind (some opcode) shape

theorem cycleKindOf_ne_acquisition (cmd : Cmd) : cycleKindOf cmd ≠ .acquisition := by cases cmd <;> decide

theorem State.Inv.sendCommand (h : s.Inv) (cmd : Cmd) (frame : Except EncStop Bytes) : (s.sendCommand cmd frame).Inv := by
  refine h.guarded _ fun haccepted => ?_
  obtain ⟨-, habort, hacq, -⟩ := (s.refusal_eq_none _).mp haccepted
  have hstop : s.acqActive = true → decide (cmd = .stopMeas) = true := fun hactive => by
    by_contra hother
    have hblocked := hacq hactive
    rw [if_neg (by simpa using hother)] at hblocked
    cases hblocked
  have hclear : s.abortPending = false := Bool.eq_false_iff.mpr fun hpending => by
    have hquiet := habort hpending
    split at hquiet <;> cases hquiet
  exact h.sendFrame (cycleKindOf_ne_acquisition cmd) hstop hclear _ _ _

theorem State.Inv.sendRaw (h : s.Inv) (opcode : Byte) (payload : Bytes) (shape : ReplyShape) :
    (sendRaw opcode payload shape s).Inv := by
  refine h.guarded _ fun haccepted => ?_
  obtain ⟨-, habort, hacq, -⟩ := (s.refusal_eq_none _).mp haccepted
  have hidle : s.acqActive = true → false = true := fun hactive => Bool.noConfusion (hacq hactive)
  have hclear : s.abortPending = false := Bool.eq_false_iff.mpr fun hpending => Bool.noConfusion (habort hpending)
  exact h.sendFrame (by decide) hidle hclear _ _ _

/-- The acquisition step is enabled only under `ACQ_ACTIVE` (R199). -/
theorem State.Inv.runQuiet (h : s.Inv) : s.runQuiet.Inv := by
  unfold State.runQuiet
  split
  · next henabled =>
    simp only [State.acqEnabled, Bool.and_eq_true] at henabled
    obtain ⟨⟨-, hactive⟩, -⟩ := henabled
    exact h.startCycle (by simp [hactive]) (by simp) _ _
  · exact h

/-- LISTEN starts its cycle with no acquisition running; the register writes are made in `Ready`, within the threshold's range
(R196, R200 to R203). -/
theorem State.Inv.runLocal (h : s.Inv) (o : LocalOp) : (s.runLocal o).Inv := by
  rw [State.runLocal_eq_guarded]
  refine h.guarded _ fun haccepted => ?_
  obtain ⟨hp, -, hacq, hoperand⟩ := (s.refusal_eq_none _).mp haccepted
  have ⟨habort, _, _, _, hidle, hmem, _⟩ := h
  cases o with
  | listen =>
    have hclear : s.acqActive = false := Bool.eq_false_iff.mpr fun hactive => Bool.noConfusion (hacq hactive)
    exact h.startCycle (by simp [hclear]) (by simp) _ _
  | setReplyFormat ts cr =>
    have hwritten : (s.writeFormat (tsModeOf ts) (crModeOf cr)).Inv :=
      (State.inv_congr rfl rfl rfl rfl rfl rfl rfl rfl).mpr h
    exact hwritten.emit .done
  | setIdleThreshold n =>
    exact State.inv_of_ready hp habort ((badOperand_setIdleThreshold_eq_none n).mp hoperand) hmem
  | ackAbort => exact State.inv_of_ready hp (fun hpending => Bool.noConfusion hpending) hidle hmem
  | readStatus => exact h.emit _

/-! ## The reader -/

/-- The end of a running cycle starts an acquisition only with no abort pending, and an abort ends one (R197, R204). -/
theorem State.Inv.completeCycle_countIdle (h : s.Inv) (hp : s.phase = .collect) : s.countIdle.completeCycle.Inv := by
  obtain ⟨habort, -, -, -, hidle, hmem, hstart⟩ := h
  refine State.inv_of_ready (by simp) ?_ (by simpa [State.ThresholdLegal] using hidle)
    (by simpa [State.memWf] using hmem)
  rcases s.countIdle.completeCycle_flags with ⟨hacq, hpending⟩ | ⟨hacq, -⟩ | ⟨hkind, -, hpending⟩
  · simpa [State.AbortEndsAcquisition, hacq, hpending] using habort
  · exact fun _ => hacq
  · have hclear : s.abortPending = false := hstart hp hkind
    exact fun hset => by simp [hpending, hclear] at hset

/-- A failed read aborts what acquisition there is (R121). -/
theorem State.Inv.readFail (h : s.Inv) : s.readFail.Inv := by
  obtain ⟨-, -, -, -, hidle, -, -⟩ := h
  refine State.inv_of_ready (by simp) (fun _ => ?_) (by simpa [State.ThresholdLegal] using hidle) s.readFail_memWf
  by_cases hin : s.inAcquisition = true
  · simp [State.readFail, hin]
  · obtain ⟨-, hclear⟩ : ¬s.cycleKind = .acquisition ∧ s.acqActive = false := by
      simpa [State.inAcquisition] using hin
    simp [State.readFail, hin, hclear]

/-- Bytes read restart the idle count and stay within the buffer (R118, R45). -/
theorem State.Inv.readData (h : s.Inv) (bs : Bytes) : (s.drainTransport.readData bs).Inv := by
  obtain ⟨habort, hactive, hother, -, hidle, hmem, hstart⟩ := h
  have hfits : (s.drainTransport.readData bs).memWf = true := State.append_memWf (s := s.drainTransport) hmem bs
  simp only [State.Inv, State.AbortEndsAcquisition, State.AcquisitionCycleActive, State.OtherCycleInactive,
    State.IdleBelowThreshold, State.ThresholdLegal, State.StartCycleClear, State.readData_phase, State.readData_cycleKind,
    State.readData_acqActive, State.readData_abortPending, State.readData_idleCnt, State.readData_idleThreshold]
  exact ⟨habort, hactive, hother, fun _ => hidle.1, hidle, hfits, hstart⟩

theorem State.Inv.readStep (h : s.Inv) (hp : s.phase = .collect) (a : ReadAnswer) : (s.readStep a).Inv := by
  rcases s.readStep_cases a with ⟨bs, -, e⟩ | ⟨-, e⟩ | ⟨-, e⟩ <;> rw [e]
  · exact h.readData bs
  · rcases s.readEmpty_cases with ⟨hbelow, e'⟩ | ⟨-, e'⟩ <;> rw [e']
    · obtain ⟨habort, hactive, hother, -, hrest⟩ := h
      exact ⟨habort, hactive, hother, fun _ => hbelow, hrest⟩
    · exact h.completeCycle_countIdle hp
  · exact h.readFail

theorem State.Inv.idleReads (h : s.Inv) (n : Nat) : (State.idleReads n s).Inv := by
  induction n generalizing s with
  | zero => exact h
  | succ n ih =>
    unfold State.idleReads
    split
    · next hp => exact ih (h.readStep hp .empty)
    · exact h

theorem State.Inv.hold (h : s.Inv) (bs : Bytes) : (s.hold bs).Inv :=
  (State.inv_congr rfl rfl rfl rfl rfl rfl rfl rfl).mpr h

theorem State.Inv.runRead (h : s.Inv) (a : ReadAnswer) : (s.runRead a).Inv := by
  unfold State.runRead
  split
  · next hp => exact h.readStep hp a
  · cases a with
    | data bs => exact h.hold bs
    | empty | fail => exact h

theorem State.Inv.burst (h : s.Inv) (bs : Bytes) : (s.burst bs).Inv := by
  rw [State.burst_eq_idleReads]
  exact (h.runRead _).idleReads _

end

/-! ## Every step -/

/-- The reset restores a legal threshold, an empty buffer and clear flags, whatever the parameters (R250). -/
theorem State.inv_resetBlock (s : State) : s.resetBlock.Inv :=
  State.inv_of_ready rfl (fun _ => rfl) (by decide : State.reset.ThresholdLegal) (by simp [State.memWf, State.reset])

/-- Settles O53: the reset state is the reset of itself, and its streams are empty. -/
theorem invariantsHoldAtReset : Obligations.InvariantsHoldAtReset :=
  have ⟨hsurfaced, hcurrent⟩ := State.errorsAgree_resetBlock State.reset
  ⟨State.inv_resetBlock State.reset, hsurfaced, hcurrent⟩

/-- Settles O54, by the moves a step can make. -/
theorem everyStepKeepsTheInvariants : Obligations.EveryStepKeepsTheInvariants := by
  intro s t hinv hstep
  obtain ⟨l, n, a, u, hu, hmove⟩ := step_moves hstep
  have h : u.Inv := hu ▸ hinv
  rcases hmove with ⟨cmd, frame, rfl⟩ | ⟨opcode, payload, shape, rfl⟩ | ⟨bs, rfl⟩ | rfl | ⟨o, -, rfl⟩ | ⟨ans, rfl⟩ |
    ⟨-, rfl⟩
  · exact h.sendCommand cmd frame
  · exact h.sendRaw opcode payload shape
  · exact h.burst bs
  · exact h.runQuiet
  · exact h.runLocal o
  · exact h.runRead ans
  · exact u.inv_resetBlock

end Sys2Proof.Machine
end

section
/-! PROOFS. The output streams (spec/10_state.md R33 to R36), which only grow, and the one outcome a cycle ends with
(spec/42_framereader.md R120, R121). -/

namespace Sys2Proof.Machine

/-! ## The streams only grow -/

section
variable {r s t : State}

theorem State.streamsExtend_refl (s : State) : s.StreamsExtend s :=
  ⟨⟨[], by simp⟩, ⟨[], by simp⟩, ⟨[], by simp⟩, ⟨[], by simp⟩⟩

/-- Appending to what continues a stream continues it still. -/
theorem exists_append_trans {α : Type} {a b c : List α} (hab : ∃ l, b = a ++ l) (hbc : ∃ l, c = b ++ l) :
    ∃ l, c = a ++ l := by
  obtain ⟨l, rfl⟩ := hab
  obtain ⟨m, rfl⟩ := hbc
  exact ⟨l ++ m, List.append_assoc a l m⟩

theorem State.streamsExtend_trans (hrs : r.StreamsExtend s) (hst : s.StreamsExtend t) : r.StreamsExtend t := by
  obtain ⟨hresult, hsample, herror, htx⟩ := hrs
  obtain ⟨hresult', hsample', herror', htx'⟩ := hst
  exact ⟨exists_append_trans hresult hresult', exists_append_trans hsample hsample', exists_append_trans herror herror',
    exists_append_trans htx htx'⟩

/-- A move that touches no stream. -/
theorem State.streamsExtend_of_same (hresult : t.resultOut = s.resultOut) (hsample : t.sampleOut = s.sampleOut)
    (herror : t.errorOut = s.errorOut) (htx : t.txOut = s.txOut) : s.StreamsExtend t :=
  ⟨⟨[], by simp [hresult]⟩, ⟨[], by simp [hsample]⟩, ⟨[], by simp [herror]⟩, ⟨[], by simp [htx]⟩⟩

theorem State.emit_streamsExtend (s : State) (o : Report) : s.StreamsExtend (s.emit o) :=
  ⟨⟨[o], rfl⟩, ⟨[], by simp⟩, ⟨[], by simp⟩, ⟨[], by simp⟩⟩

theorem State.deliver_streamsExtend (s : State) (o : Report) : s.StreamsExtend (s.deliver o) := by
  by_cases ho : ∀ err info msgs, o ≠ .fail err info msgs
  · rw [s.deliver_of_not_fail ho]
    exact s.emit_streamsExtend o
  · push Not at ho
    obtain ⟨err, info, msgs, rfl⟩ := ho
    rw [s.deliver_fail_eq]
    exact ⟨⟨_, rfl⟩, ⟨[], by simp⟩, ⟨_, rfl⟩, ⟨[], by simp⟩⟩

theorem State.guarded_streamsExtend (op : OpClass) {perform : State → State} (h : s.StreamsExtend (perform s)) :
    s.StreamsExtend (s.guarded op perform) := by
  rcases s.guarded_cases op perform with ⟨reason, -, e⟩ | ⟨-, e⟩ <;> rw [e]
  · exact s.emit_streamsExtend _
  · exact h

theorem State.sendFrame_streamsExtend (s : State) (frame : Except EncStop Bytes) (stops : Bool) (kind : CycleKind)
    (opcode : Byte) (shape : ReplyShape) : s.StreamsExtend (s.sendFrame frame stops kind opcode shape) := by
  rcases s.sendFrame_cases frame stops kind opcode shape with ⟨reason, e⟩ | ⟨err, info, e⟩ | ⟨f, -, -, e⟩ <;> rw [e]
  · exact s.emit_streamsExtend _
  · exact s.deliver_streamsExtend _
  · exact ⟨⟨[], by simp⟩, ⟨[], by simp⟩, ⟨[], by simp⟩, ⟨[f], rfl⟩⟩

/-- The end of a cycle emits its samples, and then delivers its outcome (R120). -/
theorem State.completeCycle_streamsExtend (s : State) : s.StreamsExtend s.completeCycle := by
  have hrecorded : s.StreamsExtend ((s.recordClassified s.classified).applyEffects s.classified.report) :=
    ⟨⟨[], by simp⟩, ⟨s.classified.samples, by simp⟩, ⟨[], by simp⟩, ⟨[], by simp⟩⟩
  exact State.streamsExtend_trans hrecorded (State.deliver_streamsExtend _ _)

theorem State.readFail_streamsExtend (s : State) : s.StreamsExtend s.readFail := by
  have hbefore : s.StreamsExtend (if s.inAcquisition then ({ s with rxbuf := [] } : State).abortSession
      else { s with rxbuf := [] }) := by
    split <;> exact State.streamsExtend_of_same rfl rfl rfl rfl
  exact State.streamsExtend_trans hbefore (State.deliver_streamsExtend _ _)

theorem streamsExtend_keptByReads (r : State) : KeptByReads r.StreamsExtend where
  takesBytes _ h := State.streamsExtend_trans h
    (State.streamsExtend_of_same (by simp) (by simp) (by simp) (by simp))
  counts h := State.streamsExtend_trans h (State.streamsExtend_of_same rfl rfl rfl rfl)
  completes h := State.streamsExtend_trans h (State.completeCycle_streamsExtend _)
  fails h := State.streamsExtend_trans h (State.readFail_streamsExtend _)
  holds _ h := State.streamsExtend_trans h (State.streamsExtend_of_same rfl rfl rfl rfl)

theorem State.runQuiet_streamsExtend (s : State) : s.StreamsExtend s.runQuiet := by
  unfold State.runQuiet
  split
  · exact State.streamsExtend_of_same rfl rfl rfl rfl
  · exact s.streamsExtend_refl

theorem State.runLocal_streamsExtend (s : State) (o : LocalOp) : s.StreamsExtend (s.runLocal o) := by
  rw [State.runLocal_eq_guarded]
  refine State.guarded_streamsExtend _ ?_
  cases o with
  | listen => exact State.streamsExtend_of_same rfl rfl rfl rfl
  | setReplyFormat | setIdleThreshold | ackAbort | readStatus =>
    exact ⟨⟨_, rfl⟩, ⟨[], by simp [State.performLocal]⟩, ⟨[], by simp [State.performLocal]⟩,
      ⟨[], by simp [State.performLocal]⟩⟩

end

/-! ## The one outcome of a cycle -/

/-- Where `t` is `Ready`, exactly one outcome was delivered since `s`; where it still collects, none was (R120). -/
def State.DeliversAtEnd (s t : State) : Prop :=
  (t.phase = .collect ∧ t.resultOut = s.resultOut) ∨ (t.phase = .ready ∧ ∃ o, t.resultOut = s.resultOut ++ [o])

section
variable {s t : State}

theorem State.DeliversAtEnd.outcome (h : s.DeliversAtEnd t) (hp : t.phase = .ready) :
    ∃ o, t.resultOut = s.resultOut ++ [o] := by
  rcases h with ⟨hcollect, -⟩ | ⟨-, hout⟩
  · simp [hp] at hcollect
  · exact hout

/-- One read in a running cycle (R118, R119, R121). -/
theorem State.readStep_deliversAtEnd (hp : s.phase = .collect) (a : ReadAnswer) : s.DeliversAtEnd (s.readStep a) := by
  rcases s.readStep_cases a with ⟨bs, -, e⟩ | ⟨-, e⟩ | ⟨-, e⟩ <;> rw [e]
  · exact .inl ⟨by simpa using hp, by simp⟩
  · rcases s.readEmpty_cases with ⟨-, e'⟩ | ⟨-, e'⟩ <;> rw [e']
    · exact .inl ⟨hp, rfl⟩
    · exact .inr ⟨by simp, _, by simp; rfl⟩
  · exact .inr ⟨by simp, _, by simp; rfl⟩

/-- Empty reads that follow go on with a running cycle, and change nothing once it has ended (R9, R119). -/
theorem State.DeliversAtEnd.idleReads (h : s.DeliversAtEnd t) (n : Nat) : s.DeliversAtEnd (State.idleReads n t) := by
  induction n generalizing t with
  | zero => exact h
  | succ n ih =>
    rcases h with ⟨hp, hout⟩ | hended
    · rw [State.idleReads, if_pos hp]
      refine ih ?_
      simpa only [State.DeliversAtEnd, hout] using State.readStep_deliversAtEnd hp .empty
    · rw [State.idleReads_ready hended.1]
      exact .inr hended

theorem State.runRead_deliversAtEnd (hp : s.phase = .collect) (a : ReadAnswer) : s.DeliversAtEnd (s.runRead a) := by
  rw [State.runRead_collect hp]
  exact State.readStep_deliversAtEnd hp a

theorem State.burst_deliversAtEnd (hp : s.phase = .collect) (bs : Bytes) : s.DeliversAtEnd (s.burst bs) := by
  rw [State.burst_eq_idleReads]
  exact (State.runRead_deliversAtEnd hp _).idleReads _

/-- An operation presented during a cycle does not end it (R191 test 1). -/
theorem State.guarded_phase_of_collect (hp : s.phase = .collect) (op : OpClass) (perform : State → State) :
    (s.guarded op perform).phase = .collect := by
  rw [State.guarded_of_some (State.refusal_collect hp op)]
  exact hp

/-- The block takes no step of its own during a cycle (R190). -/
theorem State.runQuiet_of_collect (hp : s.phase = .collect) : s.runQuiet = s := by
  simp [State.runQuiet, State.acqEnabled, hp]

end

/-- Settles O57: every move but the reset continues the streams, and of the moves only reads end a cycle. -/
theorem streamsOnlyGrow : Obligations.StreamsOnlyGrow := by
  intro s t hstep hne
  obtain ⟨l, n, a, u, hu, hmove⟩ := step_moves hstep
  have hphase : u.phase = s.phase := hu ▸ rfl
  have hresult : u.resultOut = s.resultOut := hu ▸ rfl
  have hsu : s.StreamsExtend u := hu ▸ s.streamsExtend_refl
  suffices h : u.StreamsExtend t ∧
      (u.phase = .collect → t.phase = .ready → ∃ o, t.resultOut = u.resultOut ++ [o]) by
    rw [hphase, hresult] at h
    exact ⟨State.streamsExtend_trans hsu h.1, h.2⟩
  have runs (hrunning : u.phase = .collect → t.phase = .collect) :
      u.phase = .collect → t.phase = .ready → ∃ o, t.resultOut = u.resultOut ++ [o] :=
    fun hp ht => absurd (ht.symm.trans (hrunning hp)) (by decide)
  rcases hmove with ⟨cmd, frame, rfl⟩ | ⟨opcode, payload, shape, rfl⟩ | ⟨bs, rfl⟩ | rfl | ⟨o, -, rfl⟩ | ⟨ans, rfl⟩ |
    ⟨hin, -⟩
  · exact ⟨State.guarded_streamsExtend _ (u.sendFrame_streamsExtend _ _ _ _ _),
      runs fun hp => State.guarded_phase_of_collect hp _ _⟩
  · exact ⟨State.guarded_streamsExtend _ (u.sendFrame_streamsExtend _ _ _ _ _),
      runs fun hp => State.guarded_phase_of_collect hp _ _⟩
  · exact ⟨(streamsExtend_keptByReads u).burst u.streamsExtend_refl bs,
      fun hp => (State.burst_deliversAtEnd hp bs).outcome⟩
  · exact ⟨u.runQuiet_streamsExtend, runs fun hp => by rw [State.runQuiet_of_collect hp, hp]⟩
  · exact ⟨u.runLocal_streamsExtend o, runs fun hp => by rw [State.runLocal_of_collect hp]; exact hp⟩
  · exact ⟨(streamsExtend_keptByReads u).runRead u.streamsExtend_refl ans,
      fun hp => (State.runRead_deliversAtEnd hp ans).outcome⟩
  · exact absurd hin hne

end Sys2Proof.Machine
end

section
/-! PROOFS. The acquisition loop (spec/46_session.md R191 test 3, R199): what it refuses, and what ends it. -/

namespace Sys2Proof.Machine

section
variable {s t : State}

/-! ## The refusals of a row -/

/-- A row of the host is the stop or one of the operations that test 3 refuses, and its operand has a test only if it is a raw
frame of the opcode of system messages (R191, R193). -/
theorem exec_host_op (s : State) {i : Instr} (hi : i.fromDevice = false) :
    ∃ op perform, exec i s = .next (s.guarded op perform) ∧ op.transmits = true ∧
      (i ≠ .stopMeas → op.blockedByAcq = true) ∧
      (∀ shape payload, i = .frame (.send shape) 0x18 payload → op.badOperand = some .reservedOpcode) := by
  cases i with
  | initSetup | addFreqList | startMeas | getNumFreq | getFreqPoint | getFreqList | getDeviceId =>
    exact ⟨.command, _, rfl, rfl, fun _ => rfl, by simp⟩
  | stopMeas => exact ⟨.stopMeas, _, rfl, rfl, by simp, by simp⟩
  | frame dir opcode payload =>
    cases dir with
    | send shape =>
      refine ⟨.sendRaw opcode, _, rfl, rfl, fun _ => rfl, fun shape' payload' h => ?_⟩
      cases h
      rfl
    | receive => cases hi
  | _ => cases hi

/-- Settles O18: behind the first test the others are tried in their order. -/
theorem refusedRowChangesOnlyTheResults : Obligations.RefusedRowChangesOnlyTheResults := by
  intro s i hp hi
  obtain ⟨op, perform, e, htransmits, hblocked, hoperand⟩ := exec_host_op s hi
  have declines {r : RefuseReason} (hr : s.refusal op = some r) :
      exec i s = .next { s with resultOut := s.resultOut ++ [.refused r] } :=
    e.trans (congrArg Host.Outcome.next (State.guarded_of_some hr perform))
  refine ⟨fun habort => declines ?_, fun habort hacq hother => declines ?_,
    fun shape payload habort hacq hraw => declines ?_⟩
  · simp [State.refusal, hp, habort, htransmits]
  · simp [State.refusal, hp, habort, hacq, hblocked hother]
  · simpa [State.refusal, hp, habort, hacq] using hoperand shape payload hraw

/-! ## While the loop runs -/

/-- Every row of the host but the stop is declined (R191 test 3). -/
theorem exec_host_of_acqActive (hacq : s.acqActive = true) {i : Instr} (hi : i.fromDevice = false) (hother : i ≠ .stopMeas) :
    ∃ r, exec i s = .next (s.decline r) := by
  obtain ⟨op, perform, e, -, hblocked, -⟩ := exec_host_op s hi
  rcases s.guarded_cases op perform with ⟨r, -, e'⟩ | ⟨haccepted, -⟩
  · exact ⟨r, by rw [e, e']⟩
  · obtain ⟨-, -, hfree, -⟩ := (s.refusal_eq_none op).mp haccepted
    exact absurd (hfree hacq) (by simp [hblocked hother])

/-- A command writes its frame, or leaves both `TX_OUT` and the loop as they were (R191, R192). -/
theorem State.sendCommand_writes_or_keeps (s : State) (cmd : Cmd) (frame : Except EncStop Bytes) :
    (∃ f, frame = .ok f ∧ (s.sendCommand cmd frame).txOut = s.txOut ++ [f]) ∨
    ((s.sendCommand cmd frame).txOut = s.txOut ∧ (s.sendCommand cmd frame).acqActive = s.acqActive) := by
  unfold State.sendCommand
  rcases s.guarded_cases _ _ with ⟨r, -, e⟩ | ⟨-, e⟩ <;> rw [e]
  · exact .inr ⟨rfl, rfl⟩
  · rcases s.sendFrame_cases frame _ _ _ _ with ⟨r, e⟩ | ⟨k, i, e⟩ | ⟨f, hf, -, e⟩ <;> rw [e]
    · exact .inr ⟨rfl, rfl⟩
    · exact .inr ⟨rfl, rfl⟩
    · exact .inl ⟨f, hf, rfl⟩

/-- What reads may do to the loop: it goes on, or an abort has ended it (R121, R197). -/
theorem acqActive_or_abort_keptByReads : KeptByReads fun s => s.acqActive = true ∨ s.abortPending = true where
  takesBytes _ h := by simpa using h
  counts h := h
  completes {s} h := by
    rcases s.completeCycle_flags with ⟨hacq, habort⟩ | ⟨-, habort⟩ | ⟨-, hacq, -⟩
    · rwa [hacq, habort]
    · exact .inr habort
    · exact .inl hacq
  fails {s} h := by
    by_cases hin : s.inAcquisition = true
    · exact .inr (by simp [State.readFail, hin])
    · simpa [State.readFail, hin] using h
  holds _ h := h

theorem State.runQuiet_acqActive (s : State) : s.runQuiet.acqActive = s.acqActive := by
  unfold State.runQuiet State.acqStep
  split <;> simp

/-- No operation without a wire form touches the loop (R196, R200 to R203). -/
theorem State.runLocal_acqActive (s : State) (o : LocalOp) : (s.runLocal o).acqActive = s.acqActive := by
  rw [State.runLocal_eq_guarded]
  rcases s.guarded_cases (localOpClass o) (State.performLocal o) with ⟨r, -, e⟩ | ⟨-, e⟩ <;> rw [e]
  · exact s.decline_acqActive r
  · cases o <;> rfl

/-- After a move that no row names, but the reset, the loop goes on or an abort has ended it. -/
theorem State.fetch_moved_of_acqActive {inp : Input} (hacq : s.acqActive = true) (h : s.fetch inp = .moved t)
    (hne : inp ≠ .reset) : t.acqActive = true ∨ t.abortPending = true := by
  rcases State.fetch_moved h with rfl | ⟨o, rfl⟩ | ⟨bs, rfl⟩ | ⟨a, rfl⟩ | ⟨hreset, -⟩
  · exact .inl (s.runQuiet_acqActive.trans hacq)
  · exact .inl ((s.runLocal_acqActive o).trans hacq)
  · exact acqActive_or_abort_keptByReads.burst (.inl hacq) bs
  · exact acqActive_or_abort_keptByReads.runRead (.inl hacq) a
  · exact absurd hreset hne

/-- A row writes the stop's frame or nothing, and without that frame the loop goes on or an abort has ended it. -/
theorem exec_of_acqActive {i : Instr} (hacq : s.acqActive = true) (h : exec i s = .next t) :
    t.txOut = s.txOut ++ [encode s.cfg .stopMeas] ∨
    (t.txOut = s.txOut ∧ (t.acqActive = true ∨ t.abortPending = true)) := by
  cases hi : i.fromDevice with
  | true =>
    rw [exec_device_eq_burst s hi] at h
    cases h
    exact .inr ⟨s.burst_txOut _, acqActive_or_abort_keptByReads.burst (.inl hacq) _⟩
  | false =>
    by_cases hstop : i = .stopMeas
    · subst hstop
      cases h
      rcases s.sendCommand_writes_or_keeps .stopMeas (frameStopMeas s.cfg) with ⟨f, hf, hout⟩ | ⟨hout, hkept⟩
      · rw [buildCommand_eq_ok hf] at hout
        exact .inl hout
      · exact .inr ⟨hout, .inl (hkept.trans hacq)⟩
    · obtain ⟨r, e⟩ := exec_host_of_acqActive hacq hi hstop
      obtain rfl := Host.Outcome.next.inj (e.symm.trans h)
      exact .inr ⟨rfl, .inl hacq⟩

end

/-- Settles O60: a row that is run writes at most the stop, and the other moves write nothing. -/
theorem onlyTheStopIsSentDuringAcquisition : Obligations.OnlyTheStopIsSentDuringAcquisition := by
  intro s t hacq hstep hne
  suffices h : t.txOut = s.txOut ++ [encode s.cfg .stopMeas] ∨
      (t.txOut = s.txOut ∧ (t.acqActive = true ∨ t.abortPending = true)) by
    rcases h with hout | ⟨hout, hloop⟩
    · exact ⟨.inr hout, fun _ => .inl hout⟩
    · exact ⟨.inl hout, fun hclear => .inr (hloop.resolve_left (by simp [hclear]))⟩
  rcases step_cases hstep with ⟨i, s1, hrun, hexec⟩ | hmoved
  · obtain ⟨ans, rfl⟩ := State.fetch_run hrun
    simpa using exec_of_acqActive (by simpa using hacq) hexec
  · exact .inr ⟨by simpa using State.fetch_moved_txOut hmoved hne,
      State.fetch_moved_of_acqActive (by simpa using hacq) hmoved hne⟩

end Sys2Proof.Machine
end

section
/-! PROOFS. One step by the input it takes (spec/46_session.md R190): the item an input presents, the device's bytes, a failed
read, the operations without a wire form, the input that presents nothing, and the reset. -/

namespace Sys2Proof.Machine

/-! ## The input of a step -/

section
variable {s s1 : State} {inp : Input} {rest : List Input}

/-- A step runs the item its input becomes (R190). -/
theorem step_of_run {i : Instr} (h : s.takeInput.fetch s.nextInput = .run i s1) : step s = exec i s1 := by
  simp only [step, h]

/-- Or it is the move its input stands for (R190). -/
theorem step_of_moved (h : s.takeInput.fetch s.nextInput = .moved s1) : step s = .next s1 := by
  simp only [step, h]

theorem State.nextInput_of_script (h : s.script = inp :: rest) : s.nextInput = inp := by
  simp only [State.nextInput, h]

theorem State.takeInput_of_script (h : s.script = inp :: rest) : s.takeInput = { s with script := rest } := by
  simp only [State.takeInput, h]

/-- A laid-down input that is a move of the block makes the step that move. -/
theorem step_of_script_moved (h : s.script = inp :: rest)
    (hmoved : ({ s with script := rest } : State).fetch inp = .moved s1) : step s = .next s1 := by
  refine step_of_moved ?_
  rw [State.nextInput_of_script h, State.takeInput_of_script h, hmoved]

/-- The next input is the one laid down, or beyond those the environment's free value; taking it moves on in the script or in
the environment's count. -/
theorem State.takes_input (h : (∃ rest, s.script = inp :: rest ∧ s1 = { s with script := rest }) ∨
      (s.script = [] ∧ inp = Config.environment s.envIdx ∧ s1 = { s with envIdx := s.envIdx + 1 })) :
    s.nextInput = inp ∧ s.takeInput = s1 := by
  rcases h with ⟨rest, hscript, rfl⟩ | ⟨hscript, rfl, rfl⟩
  · exact ⟨State.nextInput_of_script hscript, State.takeInput_of_script hscript⟩
  · simp only [State.nextInput, State.takeInput, hscript, and_self]

end

/-- Settles O4, by the three forms in which an input presents an item. -/
theorem stepRunsThePresentedItem : Obligations.StepRunsThePresentedItem := by
  intro s s1 inp h
  obtain ⟨hnext, rfl⟩ := State.takes_input h
  have hcfg := s.takeInput_cfg
  have hport : s.takeInput.devicePort = .device s.tsMode s.crMode := by simp [State.devicePort]
  refine ⟨?_, ?_, ?_⟩
  · rintro i ans rfl
    exact step_of_run (hnext ▸ rfl)
  · rintro bs shape ans i rfl hdecode
    refine step_of_run (s1 := s.takeInput.withTxAnswer ans) ?_
    simp only [hnext, State.fetch, hcfg, hdecode]
  · rintro bs i rfl hdecode
    refine step_of_run ?_
    simp only [hnext, State.fetch, hcfg, hport, hdecode]

/-! ## The device's bytes -/

/-- A step on bytes laid on the device's port is their burst, whether they decode or not (R9, R140). -/
theorem step_device {s : State} {bs : Bytes} {rest : List Input} (h : s.script = .device bs :: rest) :
    step s = .next (({ s with script := rest } : State).burst bs) := by
  cases hdecode : decode s.cfg s.devicePort bs with
  | error e =>
    refine step_of_script_moved h ?_
    have hdecode' : decode ({ s with script := rest } : State).cfg ({ s with script := rest } : State).devicePort bs =
      .error e := hdecode
    simp only [State.fetch, hdecode']
  | ok i =>
    have hrun : step s = exec i { s with script := rest } := by
      obtain ⟨-, -, hdevice⟩ := stepRunsThePresentedItem s _ _ (.inl ⟨rest, h, rfl⟩)
      exact hdevice bs i rfl hdecode
    rw [hrun, exec_device_eq_burst _ (fromDevice_of_decode_device hdecode)]
    exact congrArg (fun b => Host.Outcome.next (State.burst _ b)) (decodedItemEncodesToTheSameBytes _ _ _ _ hdecode)

/-- Settles O6: what a row of the device runs, and what a step on the device's port runs, is the burst. -/
theorem deviceItemIsTheBurstOfItsBytes : Obligations.DeviceItemIsTheBurstOfItsBytes :=
  ⟨fun s _ hi => exec_device_eq_burst s hi, fun _ _ _ h => step_device h⟩

/-! ## A failed read -/

/-- In an acquisition a failed read aborts the session (R121). -/
theorem State.readFail_inAcquisition {s : State} (h : s.inAcquisition = true) :
    s.readFail = { s with
      rxbuf := [], acqActive := false, abortPending := true, phase := .ready,
      resultOut := s.resultOut ++ [.fail .transportError .read []],
      errorOut := s.errorOut ++ [⟨.transportError, .read⟩], lastErr := ⟨11, some .read⟩ } := by
  simp only [State.readFail, h, if_true]
  rfl

/-- Outside one it only ends the cycle (R121). -/
theorem State.readFail_not_inAcquisition {s : State} (h : s.inAcquisition = false) :
    s.readFail = { s with
      rxbuf := [], phase := .ready,
      resultOut := s.resultOut ++ [.fail .transportError .read []],
      errorOut := s.errorOut ++ [⟨.transportError, .read⟩], lastErr := ⟨11, some .read⟩ } := by
  simp only [State.readFail, h]
  rfl

/-- Settles O47, by whether the cycle belongs to an acquisition. -/
theorem failedReadEndsTheCycle : Obligations.FailedReadEndsTheCycle := by
  intro s rest hp hs
  have hstep : step s = .next ({ s with script := rest } : State).readFail := by
    rw [step_reading hs, State.runRead_collect (by exact hp)]
    rfl
  refine ⟨fun hin => hstep.trans ?_, fun hkind hacq => hstep.trans ?_⟩
  · have hin : ({ s with script := rest } : State).inAcquisition = true := by simpa [State.inAcquisition] using hin
    exact congrArg Host.Outcome.next (State.readFail_inAcquisition hin)
  · have hout : ({ s with script := rest } : State).inAcquisition = false := by
      simp [State.inAcquisition, hkind, hacq]
    exact congrArg Host.Outcome.next (State.readFail_not_inAcquisition hout)

/-! ## The operations without a wire form -/

section
variable {s : State} {o : LocalOp}

/-- Such an operation transmits nothing, so in `Ready` only the loop can refuse it, or its operand (R191). -/
theorem localOpClass_not_transmits (o : LocalOp) : (localOpClass o).transmits = false := by cases o <;> rfl

theorem State.refusal_local_acqActive (hp : s.phase = .ready) (hacq : s.acqActive = true)
    (hblocked : (localOpClass o).blockedByAcq = true) : s.refusal (localOpClass o) = some .acqActive := by
  simp [State.refusal, hp, localOpClass_not_transmits, hacq, hblocked]

theorem State.refusal_local_operand (hp : s.phase = .ready)
    (hacq : s.acqActive = true → (localOpClass o).blockedByAcq = false) :
    s.refusal (localOpClass o) = (localOpClass o).badOperand := by
  have hfree : ¬(s.acqActive = true ∧ (localOpClass o).blockedByAcq = true) := by
    rintro ⟨hactive, hblocked⟩
    simp [hacq hactive] at hblocked
  simp [State.refusal, hp, localOpClass_not_transmits, hfree]

theorem step_localOp_accepted {rest : List Input} (hnone : s.refusal (localOpClass o) = none)
    (hs : s.script = .localOp o :: rest) : step s = .next (State.performLocal o { s with script := rest }) := by
  have hnone : ({ s with script := rest } : State).refusal (localOpClass o) = none := hnone
  rw [step_localOp hs, State.runLocal_eq_guarded, State.guarded_of_none hnone]

theorem step_localOp_refused {rest : List Input} {r : RefuseReason} (hr : s.refusal (localOpClass o) = some r)
    (hs : s.script = .localOp o :: rest) :
    step s = .next { s with script := rest, resultOut := s.resultOut ++ [.refused r] } := by
  have hr : ({ s with script := rest } : State).refusal (localOpClass o) = some r := hr
  rw [step_localOp hs, State.runLocal_eq_guarded, State.guarded_of_some hr]
  rfl

end

/-- Settles O49: each operation behind the two tests that can refuse it. -/
theorem localOperationsHaveTheirEffect : Obligations.LocalOperationsHaveTheirEffect := by
  intro s rest hp
  refine ⟨fun hacq hs => ?_, fun ts cr tsMode crMode hts hcr hacq hs => ?_, fun hacq hs => ?_, fun ts cr hacq hs => ?_,
    fun n hlow hhigh hs => ?_, fun n hout hs => ?_, fun hs => ?_, fun hs => ?_⟩
  · exact step_localOp_accepted (State.refusal_local_operand hp (by simp [hacq])) hs
  · have hts : tsModeOf ts = tsMode := by rcases hts with ⟨rfl, rfl⟩ | ⟨rfl, rfl⟩ | ⟨rfl, rfl⟩ <;> rfl
    have hcr : crModeOf cr = crMode := by rcases hcr with ⟨rfl, rfl⟩ | ⟨rfl, rfl⟩ <;> rfl
    rw [← hts, ← hcr]
    exact step_localOp_accepted (State.refusal_local_operand hp (by simp [hacq])) hs
  · exact step_localOp_refused (State.refusal_local_acqActive hp hacq rfl) hs
  · exact step_localOp_refused (State.refusal_local_acqActive hp hacq rfl) hs
  · have hgood := (badOperand_setIdleThreshold_eq_none n).mpr ⟨hlow, hhigh⟩
    exact step_localOp_accepted ((State.refusal_local_operand (o := .setIdleThreshold n) hp fun _ => rfl).trans hgood) hs
  · have hbad : (OpClass.setIdleThreshold n).badOperand = some .badValue := if_pos hout
    exact step_localOp_refused ((State.refusal_local_operand (o := .setIdleThreshold n) hp fun _ => rfl).trans hbad) hs
  · exact step_localOp_accepted (State.refusal_local_operand hp fun _ => rfl) hs
  · exact step_localOp_accepted (State.refusal_local_operand hp fun _ => rfl) hs

/-! ## The block's own step, and the reset -/

/-- Settles O50: the acquisition step is enabled by exactly the three conditions. -/
theorem quietStepIsTheAcquisitionStep : Obligations.QuietStepIsTheAcquisitionStep := by
  intro s rest hs
  have hstep : step s = .next ({ s with script := rest } : State).runQuiet := step_of_script_moved hs rfl
  refine ⟨fun hp hacq habort => hstep.trans ?_, fun hdisabled => hstep.trans ?_⟩
  · have henabled : ({ s with script := rest } : State).acqEnabled = true := by
      simp [State.acqEnabled, hp, hacq, habort]
    rw [State.runQuiet, if_pos henabled]
    rfl
  · have hidle : ¬({ s with script := rest } : State).acqEnabled = true := by
      rcases hdisabled with h | h | h <;> simp [State.acqEnabled, h]
    rw [State.runQuiet, if_neg hidle]

/-- Settles O51: the reset is a move whose state is written out in full. -/
theorem externalResetRestoresEveryElement : Obligations.ExternalResetRestoresEveryElement :=
  fun _ _ hs => step_of_script_moved hs rfl

end Sys2Proof.Machine
end

section
/-! PROOFS. The byte codec family (spec/40_bytecodec.md): the round trips of the two codecs; and words of each family of the
table, decoded (spec/30_encoding.md). -/

namespace Sys2Proof.Machine

/-! ## Floats -/

theorem decF32_of_length_four {bs : Bytes} (h : bs.length = 4) : decF32 bs = .ok (BitVec.ofNat 32 (beNat bs)) := by
  have hlong : ¬bs.length < 4 := by omega
  rw [decF32, if_neg hlong, List.take_of_length_le (Nat.le_of_eq h)]

theorem decF32_short {bs : Bytes} (h : bs.length < 4) : decF32 bs = .error ⟨.malformedFrame, .fieldShort⟩ :=
  if_pos h

/-- Settles O29: the two laws of R98, and the one error of R91. -/
theorem floatCodecRoundTrip : Obligations.FloatCodecRoundTrip :=
  ⟨decF32_encF32_append,
    fun _ h => ⟨_, decF32_of_length_four h, encF32_decF32 h (decF32_of_length_four h)⟩,
    fun _ => decF32_short⟩

/-! ## Integers -/

/-- The numbers of `w` bytes are those below `256 ^ w` (R93). -/
theorem two_pow_eight_mul (w : Nat) : 2 ^ (8 * w) = 256 ^ w :=
  pow_mul 2 8 w

theorem encUint_badWidth {w : Nat} (h1 : w ≠ 1) (h2 : w ≠ 2) (h4 : w ≠ 4) (x : Nat) :
    encUint x w = .error (.refuse .badWidth) :=
  if_neg (by simp [h1, h2, h4])

theorem decUint_of_size {bs : Bytes} (h : bs.length = 1 ∨ bs.length = 2 ∨ bs.length = 4) : decUint bs = .ok (beNat bs) :=
  if_pos h

theorem decUint_badSize {bs : Bytes} (h1 : bs.length ≠ 1) (h2 : bs.length ≠ 2) (h4 : bs.length ≠ 4) :
    decUint bs = .error ⟨.malformedFrame, .fieldShort⟩ :=
  if_neg (by simp [h1, h2, h4])

/-- Settles O30, by the width and by whether the number fits it. -/
theorem integerCodecRoundTrip : Obligations.IntegerCodecRoundTrip := by
  refine ⟨fun x w hw hfits => ?_, fun x w hw hlarge => ?_, fun x w h1 h2 h4 => encUint_badWidth h1 h2 h4 x,
    fun bs hsize => ?_, fun bs => decUint_badSize⟩
  · rw [two_pow_eight_mul] at hfits
    exact ⟨beBytes w x, encUint_ok hw hfits, beBytes_length w x, decUint_beBytes hw hfits⟩
  · rw [two_pow_eight_mul] at hlarge
    exact encUint_outOfRange hw hlarge
  · rw [two_pow_eight_mul]
    exact ⟨beNat bs, decUint_of_size hsize, beNat_lt bs, encUint_decUint (decUint_of_size hsize)⟩

/-! ## Words of the table -/

/-- Settles O3: each word is a closed computation of the decoder. -/
theorem wordsOfEveryFamilyDecode : Obligations.WordsOfEveryFamilyDecode :=
  ⟨by decide, by decide, by decide, by decide, by decide, by decide, by decide, by decide, by decide⟩

end Sys2Proof.Machine
end

section
/-! PROOFS. The classifier family (spec/43_classifier.md): the rows of the scan's transition table that pass a byte over, and
which of several messages decides (R142). -/

namespace Sys2Proof.Machine

/-! ## The other rows of the transition table (R135) -/

section
variable (t : MsgTable) {c : Scratch} {b : Byte}

/-- Another byte than the length is no message's (R132, D13). -/
theorem scanByte_rejectsLength (hstate : c.state = .inLength) (hb : b ≠ sysLength) :
    scanByte t c b = { c with state := .seeking, pos := c.pos + 1 } := by
  simp [scanByte, hstate, hb]

/-- Bytes between the code and the closing token are passed over (R134, D14). -/
theorem scanByte_passesInMessage {code : Byte} (hstate : c.state = .inMessage) (hcode : c.code = some code)
    (hb : b ≠ sysOpcode) : scanByte t c b = { c with pos := c.pos + 1 } := by
  simp [scanByte, hstate, hcode, hb]

/-- Settles O39: the two rows of `InLength`, and the two of `InMessage` with a code held. -/
theorem scanTestsTheLengthAndClosesTheMessage : Obligations.ScanTestsTheLengthAndClosesTheMessage := by
  intro t c b code
  refine ⟨?_, scanByte_rejectsLength t, ?_, scanByte_passesInMessage t⟩
  · rintro hstate rfl
    exact scanByte_acceptsLength t hstate
  · rintro hstate hcode rfl
    exact scanByte_closes t hstate hcode

end

/-! ## Which message decides (R142) -/

section
variable {msgs pre post : List SysMsg} {m : SysMsg} {e : Raised}

theorem unknownError_eq_none (h : m.name ≠ .unknown) : unknownError m = none :=
  if_neg h

theorem unknownError_of_unknown (h : m.name = .unknown) :
    unknownError m = some ⟨.malformedFrame, .unknownSysCode m.code⟩ :=
  if_pos h

/-- A list without a fatal message goes on to the next class (R142). -/
theorem findSome?_fatalError_eq_none (h : ∀ x ∈ msgs, fatalError x.name = none) :
    (msgs.findSome? fun m => fatalError m.name) = none :=
  List.findSome?_eq_none_iff.mpr h

theorem findSome?_unknownError_eq_none (h : ∀ x ∈ msgs, x.name ≠ .unknown) : msgs.findSome? unknownError = none :=
  List.findSome?_eq_none_iff.mpr fun x hx => unknownError_eq_none (h x hx)

theorem findSome?_nackError_eq_none (h : ∀ x ∈ msgs, nackError x.name = none) :
    (msgs.findSome? fun m => nackError m.name) = none :=
  List.findSome?_eq_none_iff.mpr h

/-- The first fatal message decides (R142 item 1). -/
theorem evaluate_first_fatal (hpre : ∀ x ∈ pre, fatalError x.name = none) (hm : fatalError m.name = some e) :
    evaluate (pre ++ m :: post) = .fail e.kind e.info (pre ++ m :: post) := by
  have hfirst : ((pre ++ m :: post).findSome? fun m => fatalError m.name) = some e :=
    List.findSome?_eq_some_iff.mpr ⟨pre, m, post, rfl, hm, hpre⟩
  simp only [evaluate, hfirst]

/-- Without one, the first unknown message (R142 item 2). -/
theorem evaluate_first_unknown (hfatal : ∀ x ∈ pre ++ m :: post, fatalError x.name = none)
    (hpre : ∀ x ∈ pre, x.name ≠ .unknown) (hm : m.name = .unknown) :
    evaluate (pre ++ m :: post) = .fail .malformedFrame (.unknownSysCode m.code) (pre ++ m :: post) := by
  have hfirst := List.findSome?_eq_some_iff.mpr
    ⟨pre, m, post, rfl, unknownError_of_unknown hm, fun x hx => unknownError_eq_none (hpre x hx)⟩
  simp only [evaluate, findSome?_fatalError_eq_none hfatal, hfirst]

/-- With neither, the first rejecting message (R142 item 3). -/
theorem evaluate_first_nack (hfatal : ∀ x ∈ pre ++ m :: post, fatalError x.name = none)
    (hunknown : ∀ x ∈ pre ++ m :: post, x.name ≠ .unknown) (hpre : ∀ x ∈ pre, nackError x.name = none)
    (hm : nackError m.name = some e) : evaluate (pre ++ m :: post) = .fail e.kind e.info (pre ++ m :: post) := by
  have hfirst : ((pre ++ m :: post).findSome? fun m => nackError m.name) = some e :=
    List.findSome?_eq_some_iff.mpr ⟨pre, m, post, rfl, hm, hpre⟩
  simp only [evaluate, findSome?_fatalError_eq_none hfatal, findSome?_unknownError_eq_none hunknown, hfirst]

/-- Without a failure an acknowledgment decides, and without one the messages are a notice (R142 items 4 and 5). -/
theorem evaluate_no_error (hfatal : ∀ x ∈ msgs, fatalError x.name = none) (hunknown : ∀ x ∈ msgs, x.name ≠ .unknown)
    (hnack : ∀ x ∈ msgs, nackError x.name = none) :
    evaluate msgs = if ∃ x ∈ msgs, x.name = .commandAcknowledge then .ack msgs else .notice msgs := by
  simp [evaluate, findSome?_fatalError_eq_none hfatal, findSome?_unknownError_eq_none hunknown,
    findSome?_nackError_eq_none hnack]

end

/-- Settles O41, class by class. -/
theorem firstMessageOfTheHighestClassDecides : Obligations.FirstMessageOfTheHighestClassDecides := by
  intro msgs
  refine ⟨?_, ?_, ?_, fun hnone hack => ?_, fun hnone => ?_⟩
  · rintro pre m post e rfl hpre hm
    exact evaluate_first_fatal hpre hm
  · rintro pre m post rfl hfatal hpre hm
    exact evaluate_first_unknown hfatal hpre hm
  · rintro pre m post e rfl hnone hpre hm
    exact evaluate_first_nack (fun x hx => (hnone x hx).1) (fun x hx => (hnone x hx).2) hpre hm
  · rw [evaluate_no_error (fun x hx => (hnone x hx).1) (fun x hx => (hnone x hx).2.1) (fun x hx => (hnone x hx).2.2),
      if_pos hack]
  · have hother : ¬∃ x ∈ msgs, x.name = .commandAcknowledge := by
      rintro ⟨x, hx, hack⟩
      obtain ⟨-, -, -, hne⟩ := hnone x hx
      exact hne hack
    rw [evaluate_no_error (fun x hx => (hnone x hx).1) (fun x hx => (hnone x hx).2.1) (fun x hx => (hnone x hx).2.2.1),
      if_neg hother]

end Sys2Proof.Machine
end

section
/-! PROOFS. The parser (spec/41_framebuilder.md R104, R105): what it accepts, and how bytes that are no whole frame fail. -/

namespace Sys2Proof.Machine

/-! ## Bytes that are no whole frame -/

section
variable {e : Byte} {found ps : List Bytes} {b rest : Bytes}

/-- The kind of an incomplete reply says whether a whole frame came before (R105, D16). -/
theorem incomplete_eq (found : List Bytes) (info : ErrInfo) :
    incomplete found info = .err ⟨if found = [] then .malformedFrame else .incompleteMultiFrameReply, info⟩ := by
  unfold incomplete
  split <;> rfl

theorem parseFrom_opcode_alone (e : Byte) (fuel : Nat) (found : List Bytes) :
    parseFrom e fuel found [e] = incomplete found .truncated := by
  cases fuel <;> simp [parseFrom]

theorem parseFrom_truncated {len : Byte} {body : Bytes} (h : body.length ≤ len.toNat) (e : Byte) (fuel : Nat)
    (found : List Bytes) : parseFrom e fuel found (e :: len :: body) = incomplete found .truncated := by
  cases fuel <;> simp [parseFrom, h]

theorem parseFrom_trailMismatch {len x : Byte} {body : Bytes} (hx : body[len.toNat]? = some x) (hne : x ≠ e) (fuel : Nat)
    (found : List Bytes) : parseFrom e fuel found (e :: len :: body) = incomplete found .trailMismatch := by
  obtain ⟨hlong, -⟩ := List.getElem?_eq_some_iff.mp hx
  cases fuel <;> simp [parseFrom, Nat.not_le.mpr hlong, hx, hne]

/-- The walk takes whole frames off one by one, whatever stands behind them (R105). -/
theorem parseFrom_framesOf_append (hps : ∀ p ∈ ps, p.length ≤ 255) (fuel : Nat) (found : List Bytes) (rest : Bytes) :
    parseFrom e (ps.length + fuel) found (framesOf e ps ++ rest) = parseFrom e fuel (found ++ ps) rest := by
  induction ps generalizing found with
  | nil => simp
  | cons p ps ih =>
    have ⟨hp, hps⟩ := List.forall_mem_cons.mp hps
    calc parseFrom e ((p :: ps).length + fuel) found (framesOf e (p :: ps) ++ rest)
        = parseFrom e (ps.length + fuel + 1) found
            ([e, BitVec.ofNat 8 p.length] ++ p ++ [e] ++ (framesOf e ps ++ rest)) := by
          rw [framesOf_cons, List.append_assoc, List.length_cons, Nat.add_right_comm]
      _ = parseFrom e (ps.length + fuel) (found ++ [p]) (framesOf e ps ++ rest) := parseFrom_frame e _ found hp _
      _ = parseFrom e fuel (found ++ p :: ps) rest := by
          rw [ih hps, List.append_assoc, List.singleton_append]

/-- The parser stands behind the whole frames with some count of steps left. -/
theorem parseFrames_framesOf_append (hps : ∀ p ∈ ps, p.length ≤ 255) (rest : Bytes) :
    ∃ fuel, parseFrames (framesOf e ps ++ rest) e = parseFrom e fuel ps rest := by
  have hcount : ps.length ≤ (framesOf e ps ++ rest).length := by
    have := length_le_length_framesOf e ps
    simp only [List.length_append]
    omega
  obtain ⟨fuel, hfuel⟩ := Nat.exists_eq_add_of_le hcount
  exact ⟨fuel, by rw [parseFrames, hfuel, parseFrom_framesOf_append hps, List.nil_append]⟩

/-! ## What the parser accepts -/

/-- A list with an element at a place is what stands before it, the element, and what stands behind it. -/
theorem exists_append_cons_of_getElem? {α : Type} {l : List α} {n : Nat} {a : α} (h : l[n]? = some a) :
    ∃ before after, l = before ++ a :: after ∧ before.length = n := by
  obtain ⟨hn, rfl⟩ := List.getElem?_eq_some_iff.mp h
  exact ⟨l.take n, l.drop (n + 1), by rw [← List.drop_eq_getElem_cons hn, List.take_append_drop],
    List.length_take_of_le (Nat.le_of_lt hn)⟩

/-- Every frame takes at least three bytes, so a count as large as the buffer never runs out: what the walk accepts is whole
frames and a tail that does not begin with the opcode (R105). -/
theorem parseFrom_eq_ok {fuel : Nat} {frames : List Bytes} (hfuel : b.length ≤ fuel)
    (h : parseFrom e fuel found b = .ok frames rest) :
    ∃ ps, frames = found ++ ps ∧ b = framesOf e ps ++ rest ∧ rest.head? ≠ some e ∧ ∀ p ∈ ps, p.length ≤ 255 := by
  induction fuel generalizing found b with
  | zero =>
    obtain rfl : b = [] := List.length_eq_zero_iff.mp (Nat.le_zero.mp hfuel)
    rw [parseFrom_stop e 0 found (by simp)] at h
    cases h
    exact ⟨[], by simp, rfl, by simp, by simp⟩
  | succ fuel ih =>
    by_cases hhead : b.head? = some e
    · obtain ⟨tail, rfl⟩ := List.head?_eq_some_iff.mp hhead
      cases tail with
      | nil => rw [parseFrom_opcode_alone, incomplete_eq] at h; cases h
      | cons len body =>
        by_cases hshort : body.length ≤ len.toNat
        · rw [parseFrom_truncated hshort, incomplete_eq] at h; cases h
        obtain ⟨x, hx⟩ : ∃ x, body[len.toNat]? = some x := ⟨_, List.getElem?_eq_getElem (Nat.not_le.mp hshort)⟩
        by_cases hxe : x = e
        · subst hxe
          obtain ⟨p, after, rfl, hp⟩ := exists_append_cons_of_getElem? hx
          have hbound : p.length ≤ 255 := by have := len.isLt; omega
          have hframe : x :: len :: (p ++ x :: after) = [x, BitVec.ofNat 8 p.length] ++ p ++ [x] ++ after := by
            simp [hp]
          rw [hframe, parseFrom_frame x fuel found hbound] at h
          obtain ⟨ps, rfl, rfl, hrest, hps⟩ := ih (by simp at hfuel; omega) h
          exact ⟨p :: ps, by simp, by rw [hframe, framesOf_cons]; simp, hrest, List.forall_mem_cons.mpr ⟨hbound, hps⟩⟩
        · rw [parseFrom_trailMismatch hx hxe, incomplete_eq] at h; cases h
    · rw [parseFrom_stop e _ found hhead] at h
      cases h
      exact ⟨[], by simp, rfl, hhead, by simp⟩

theorem parseFrames_eq_ok (h : parseFrames b e = .ok ps rest) :
    b = framesOf e ps ++ rest ∧ rest.head? ≠ some e ∧ ∀ p ∈ ps, p.length ≤ 255 := by
  obtain ⟨ps, rfl, hbytes, hrest, hps⟩ := parseFrom_eq_ok (Nat.le_refl _) h
  exact ⟨hbytes, hrest, hps⟩

/-! ## The single-frame check -/

/-- The check holds exactly of one frame (R104). -/
theorem frameOk_iff (b : Bytes) (e : Byte) : frameOk b e = true ↔ ∃ p : Bytes, p.length ≤ 255 ∧ b = envelope e p := by
  constructor
  · intro h
    simp only [frameOk, Bool.and_eq_true, decide_eq_true_eq] at h
    obtain ⟨⟨⟨hlong, hfirst⟩, hlast⟩, hlen⟩ := h
    match b, hlong with
    | x :: len :: body, hlong =>
      obtain ⟨p, y, rfl⟩ : ∃ p y, body = p ++ [y] := by
        rcases List.eq_nil_or_concat body with rfl | hconcat
        · simp at hlong
        · simpa using hconcat
      obtain rfl : x = e := by simpa using hfirst
      obtain rfl : y = x := by simpa using hlast
      have hlen : len.toNat = p.length := by simpa using hlen
      have hbyte : BitVec.ofNat 8 p.length = len := by rw [← hlen, BitVec.ofNat_toNat, BitVec.setWidth_eq]
      exact ⟨p, by have := len.isLt; omega, by simp [envelope, hbyte]⟩
  · rintro ⟨p, hp, rfl⟩
    have hmod : p.length % 256 = p.length := Nat.mod_eq_of_lt (by omega)
    simp [frameOk, envelope, hmod]

/-- Settles O33: the walk's three ways to go on, and the check by the envelope both speak of. -/
theorem parserAcceptsOnlyWholeFrames : Obligations.ParserAcceptsOnlyWholeFrames := by
  refine ⟨fun b e frames rest h => ?_, fun b e => (frameOk_iff b e).trans ⟨?_, ?_⟩, fun e len ps body hps => ?_⟩
  · obtain ⟨hbytes, hrest, hps⟩ := parseFrames_eq_ok h
    refine ⟨hbytes, hrest, hps, fun hhead hnone => ?_⟩
    subst hnone
    exact hrest (by simpa [hbytes] using hhead)
  · rintro ⟨p, hp, rfl⟩
    exact ⟨p, parseFrames_envelope e hp⟩
  · rintro ⟨p, h⟩
    obtain ⟨rfl, -, hps⟩ := parseFrames_eq_ok h
    exact ⟨p, hps p List.mem_cons_self, by simp [envelope]⟩
  · have behind (rest : Bytes) := parseFrames_framesOf_append (e := e) hps rest
    refine ⟨?_, fun hshort => ?_, fun x hx hne => ?_⟩
    · obtain ⟨fuel, hparse⟩ := behind [e]
      rw [parseFrom_opcode_alone, incomplete_eq] at hparse
      exact hparse
    · obtain ⟨fuel, hparse⟩ := behind (e :: len :: body)
      rw [parseFrom_truncated hshort, incomplete_eq] at hparse
      exact hparse
    · obtain ⟨fuel, hparse⟩ := behind (e :: len :: body)
      rw [parseFrom_trailMismatch hx hne, incomplete_eq] at hparse
      exact hparse

end

end Sys2Proof.Machine
end

section
/-! PROOFS. The command set family (spec/44_commandset.md R165 to R172), the device's identity: the double reversal, and the
places a layout gives the fields. -/

namespace Sys2Proof.Machine

/-! ## The double reversal (R170) -/

section
variable {m : Bytes}

/-- Groups from the left do not run over the end of an even part. -/
theorem pairGroups_append (xs ys : Bytes) (h : xs.length % 2 = 0) :
    pairGroups (xs ++ ys) = pairGroups xs ++ pairGroups ys := by
  induction xs using pairGroups.induct with
  | case1 a b rest ih =>
    have hrest : rest.length % 2 = 0 := by simpa [Nat.add_assoc] using h
    simp [pairGroups, ih hrest]
  | case2 a => simp at h
  | case3 => rfl

/-- A pair in front of an even rest becomes its swapped group in front of the rest's (R170). -/
theorem doubleReversal_pair (h : m.length % 2 = 0) (a b : Byte) :
    doubleReversal (a :: b :: m) = [b, a] :: doubleReversal m := by
  have hsplit : (a :: b :: m).reverse = m.reverse ++ [b, a] := by simp
  rw [doubleReversal, hsplit, pairGroups_append _ _ (by simpa using h)]
  simp [pairGroups, doubleReversal]

/-- An odd first byte stands alone (R170, D12). -/
theorem doubleReversal_single (h : m.length % 2 = 0) (a : Byte) : doubleReversal (a :: m) = [a] :: doubleReversal m := by
  rw [doubleReversal, List.reverse_cons, pairGroups_append _ _ (by simpa using h)]
  simp [pairGroups, doubleReversal]

/-- The double reversal moves bytes, and loses none. -/
theorem length_doubleReversal_flatten (h : m.length % 2 = 0) : (doubleReversal m).flatten.length = m.length := by
  induction m using pairGroups.induct with
  | case1 a b rest ih =>
    have hrest : rest.length % 2 = 0 := by simpa [Nat.add_assoc] using h
    rw [doubleReversal_pair hrest, List.flatten_cons, List.length_append, ih hrest]
    simp only [List.length_cons, List.length_nil]
    omega
  | case2 a => simp at h
  | case3 => rfl

theorem doubleReversal_doubleReversal (h : m.length % 2 = 0) : (doubleReversal (doubleReversal m).flatten).flatten = m := by
  induction m using pairGroups.induct with
  | case1 a b rest ih =>
    have hrest : rest.length % 2 = 0 := by simpa [Nat.add_assoc] using h
    have hback : (doubleReversal rest).flatten.length % 2 = 0 := by rwa [length_doubleReversal_flatten hrest]
    calc (doubleReversal (doubleReversal (a :: b :: rest)).flatten).flatten
        = (doubleReversal (b :: a :: (doubleReversal rest).flatten)).flatten := by rw [doubleReversal_pair hrest]; rfl
      _ = a :: b :: (doubleReversal (doubleReversal rest).flatten).flatten := by rw [doubleReversal_pair hback]; rfl
      _ = a :: b :: rest := by rw [ih hrest]
  | case2 a => simp at h
  | case3 => rfl

/-- Settles O37: the three equations, and the induction by pairs. -/
theorem doubleReversalSwapsPairs : Obligations.DoubleReversalSwapsPairs :=
  ⟨rfl, fun a b _ h => doubleReversal_pair h a b, fun a _ h => doubleReversal_single h a,
    fun _ => doubleReversal_doubleReversal⟩

/-! ## Where each byte comes from -/

/-- The index in `n` middle bytes of the byte that the double reversal puts at `k`: the other one of its pair, or itself where
the first stands alone. -/
def reversalSource (n k : Nat) : Nat :=
  if n % 2 = 1 ∧ k = 0 then 0 else if (k + n) % 2 = 0 then k + 1 else k - 1

theorem getElem?_doubleReversal_of_even (h : m.length % 2 = 0) (k : Nat) :
    k < m.length → (doubleReversal m).flatten[k]? = m[if k % 2 = 0 then k + 1 else k - 1]? := by
  induction m using pairGroups.induct generalizing k with
  | case1 a b rest ih =>
    have hrest : rest.length % 2 = 0 := by simpa [Nat.add_assoc] using h
    intro hk
    rw [doubleReversal_pair hrest]
    match k with
    | 0 => rfl
    | 1 => rfl
    | k + 2 =>
      have hbehind := ih hrest k (by simpa using hk)
      by_cases heven : k % 2 = 0
      · simpa [Nat.add_mod_right, heven] using hbehind
      · obtain ⟨j, rfl⟩ : ∃ j, k = j + 1 := ⟨k - 1, by omega⟩
        have hodd : (j + 1 + 2) % 2 ≠ 0 := by omega
        simpa [heven, hodd] using hbehind
  | case2 a => simp at h
  | case3 => intro hk; simp at hk

/-- The double reversal exchanges the two bytes of each pair; an odd first byte stays, and the pairs begin after it (R170). -/
theorem getElem?_doubleReversal {k : Nat} (hk : k < m.length) :
    (doubleReversal m).flatten[k]? = m[reversalSource m.length k]? := by
  by_cases heven : m.length % 2 = 0
  · rw [getElem?_doubleReversal_of_even heven k hk]
    simp [reversalSource, heven, Nat.add_mod]
  · cases m with
    | nil => simp at heven
    | cons a m =>
      have hm : m.length % 2 = 0 := by simp only [List.length_cons] at heven; omega
      rw [doubleReversal_single hm]
      match k with
      | 0 => simp [reversalSource, Nat.add_mod, hm]
      | k + 1 =>
        have hbehind := getElem?_doubleReversal_of_even hm k (by simpa using hk)
        have hparity : (k + 1 + (m.length + 1)) % 2 = k % 2 := by omega
        simp only [reversalSource, List.length_cons, hparity]
        by_cases hkeven : k % 2 = 0
        · simpa [hkeven] using hbehind
        · obtain ⟨j, rfl⟩ : ∃ j, k = j + 1 := ⟨k - 1, by omega⟩
          simpa [hkeven] using hbehind

end

/-! ## The identity (R169, R171) -/

section
variable {l : DevIdLayout} {p : Bytes}

theorem byteAt_of_getElem? {bs : Bytes} {i : Nat} {b : Byte} (h : bs[i]? = some b) : byteAt bs i = .ok b := by
  simp only [byteAt, h]

theorem byteAt_getD {bs : Bytes} {i : Nat} (h : i < bs.length) : byteAt bs i = .ok (bs.getD i 0) :=
  byteAt_of_getElem? (by simp [List.getD, List.getElem?_eq_getElem h])

/-- A payload that lacks a place of the layout is short (R169). -/
theorem decodeDeviceId_short (h : p.length < layoutNeed l) : decodeDeviceId l p = .error ⟨.malformedFrame, .fieldShort⟩ :=
  if_pos h

/-- The bytes of the middle part, seen from the payload. -/
theorem getElem?_slice {lo n j : Nat} (h : j < n) : (slice p lo (lo + n))[j]? = p[lo + j]? := by
  simp [slice, List.getElem?_drop, h]

/-- A middle field is the byte the double reversal puts at its offset (R170, R171). -/
theorem byteAt_middle (hfits : l.middleAt + l.middleSize ≤ p.length) {k : Nat} (hk : k < l.middleSize) :
    byteAt (doubleReversal (slice p l.middleAt (l.middleAt + l.middleSize))).flatten k =
      .ok (p.getD (l.middleAt + reversalSource l.middleSize k) 0) := by
  have hlen : (slice p l.middleAt (l.middleAt + l.middleSize)).length = l.middleSize := by simp [slice]; omega
  have hsource : reversalSource l.middleSize k < l.middleSize := by unfold reversalSource; split_ifs <;> omega
  refine byteAt_of_getElem? ?_
  rw [getElem?_doubleReversal (by omega), hlen, getElem?_slice hsource, List.getD,
    List.getElem?_eq_getElem (by omega), Option.getD_some]

/-- Under a legal layout a payload that holds every place decodes, each field from its own places (R169, R171). -/
theorem decodeDeviceId_ok (hlegal : l.legal = true) (hversion : l.versionAt < p.length)
    (hhigh : l.deviceIdHighAt < p.length) (hlow : l.deviceIdLowAt < p.length)
    (hmiddle : l.middleAt + l.middleSize ≤ p.length) :
    let byte := fun k => p.getD k 0
    let middle := fun k => byte (l.middleAt + reversalSource l.middleSize k)
    decodeDeviceId l p = .ok (.deviceId
      { infoVersion := byte l.versionAt
        deviceId := BitVec.ofNat 16 ((byte l.deviceIdHighAt).toNat * 256 + (byte l.deviceIdLowAt).toNat)
        serialNumber := BitVec.ofNat 16 ((middle l.serialHighAt).toNat * 256 + (middle l.serialLowAt).toNat)
        deliveryYearOffset := middle l.yearAt
        deliveryMonth := middle l.monthAt }) := by
  intro byte middle
  simp only [DevIdLayout.legal, Bool.and_eq_true, decide_eq_true_eq] at hlegal
  obtain ⟨⟨⟨hserialHigh, hserialLow⟩, hyear⟩, hmonth⟩ := hlegal
  have hneed : ¬p.length < layoutNeed l := by simp only [layoutNeed]; omega
  have hid (a b : Byte) : decUint [a, b] = .ok (a.toNat * 256 + b.toNat) := by simp [decUint, beNat_cons]
  rw [decodeDeviceId, if_neg hneed]
  simp only [bind, Except.bind, pure, Except.pure, byteAt_getD hversion, byteAt_getD hhigh, byteAt_getD hlow, hid,
    byteAt_middle hmiddle hserialHigh, byteAt_middle hmiddle hserialLow, byteAt_middle hmiddle hyear,
    byteAt_middle hmiddle hmonth, byte, middle]

/-- The default layout in a payload of seven or more bytes (R169, R171). -/
theorem decodeDeviceId_default (a b c d e f g : Byte) (rest : Bytes) :
    decodeDeviceId {} (a :: b :: c :: d :: e :: f :: g :: rest) =
      .ok (.deviceId { infoVersion := a, deviceId := BitVec.ofNat 16 (b.toNat * 256 + c.toNat),
                       serialNumber := BitVec.ofNat 16 (e.toNat * 256 + d.toNat), deliveryYearOffset := g,
                       deliveryMonth := f }) :=
  decodeDeviceId_ok (l := {}) (p := a :: b :: c :: d :: e :: f :: g :: rest) rfl (by simp) (by simp) (by simp) (by simp)

end

/-- Settles O35: short payloads by the size the layout needs, the others field by field. -/
theorem deviceIdentityFields : Obligations.DeviceIdentityFields := by
  refine ⟨decodeDeviceId_default, fun p h => decodeDeviceId_short h, fun l p h => decodeDeviceId_short ?_,
    fun l p hlegal hversion hhigh hlow hmiddle => ?_⟩
  · simp only [layoutNeed]
    omega
  · intro byte middle
    have hsource (k : Nat) : middle k = byte (l.middleAt + reversalSource l.middleSize k) := by
      simp only [middle, reversalSource]
      split <;> rfl
    simp only [hsource]
    exact decodeDeviceId_ok hlegal hversion hhigh hlow hmiddle

end Sys2Proof.Machine
end

section
/-! PROOFS. The measurement family (spec/45_measurement.md R180 to R184): a sample's payload and its fields, in both
directions. -/

namespace Sys2Proof.Machine

section
variable {p : Bytes} {ts : TsMode} {cr : CrMode} {smp : Sample}

/-! ## When a payload decodes -/

theorem decodeSample_formatUnset (h : ts = .unset ∨ cr = .unset) (p : Bytes) :
    decodeSample p ts cr = .error ⟨.malformedFrame, .formatUnset⟩ :=
  if_pos h

theorem decodeSample_sampleLength (hts : ts ≠ .unset) (hcr : cr ≠ .unset)
    (h : p.length ≠ 2 + tsWidth ts + crWidth cr + 8) :
    decodeSample p ts cr = .error ⟨.malformedFrame, .sampleLength⟩ := by
  rw [decodeSample, if_neg (by simp [hts, hcr])]
  exact if_pos h

/-- A payload that decodes has a set format and that format's size (R180, R181). -/
theorem length_of_decodeSample (h : decodeSample p ts cr = .ok smp) :
    ts ≠ .unset ∧ cr ≠ .unset ∧ p.length = 2 + tsWidth ts + crWidth cr + 8 := by
  have hset : ¬(ts = .unset ∨ cr = .unset) := fun hunset => by rw [decodeSample_formatUnset hunset] at h; cases h
  obtain ⟨hts, hcr⟩ := not_or.mp hset
  refine ⟨hts, hcr, ?_⟩
  by_contra hlen
  rw [decodeSample_sampleLength hts hcr hlen] at h
  cases h

/-- A payload of the format's size is five fields of their sizes (R71, R180). -/
theorem exists_sample_fields (h : p.length = 2 + tsWidth ts + crWidth cr + 8) :
    ∃ a t g x y : Bytes, p = a ++ (t ++ (g ++ (x ++ y))) ∧ a.length = 2 ∧ t.length = tsWidth ts ∧
      g.length = crWidth cr ∧ x.length = 4 ∧ y.length = 4 := by
  refine ⟨p.take 2, (p.drop 2).take (tsWidth ts), ((p.drop 2).drop (tsWidth ts)).take (crWidth cr),
    (((p.drop 2).drop (tsWidth ts)).drop (crWidth cr)).take 4, (((p.drop 2).drop (tsWidth ts)).drop (crWidth cr)).drop 4,
    by simp only [List.take_append_drop], ?_, ?_, ?_, ?_, ?_⟩ <;> simp <;> omega

/-! ## The device's encoding -/

/-- The encoding of a sample, its timestamp in the width of the mode (R184). -/
theorem encSample_eq (s : Sample) (ts : TsMode) :
    encSample s ts =
      encodeSample s.pointId (tsWidth ts) ((s.timestamp.map BitVec.toNat).getD 0) s.currentRange s.re s.im := by
  cases ts <;> rfl

theorem beNat_beBytes_toNat {n w : Nat} (h : 2 ^ n = 256 ^ w) (x : BitVec n) : beNat (beBytes w x.toNat) = x.toNat :=
  beNat_beBytes (h ▸ x.isLt)

/-- The bytes of a field are those of the number they decode to, in any word that holds it. -/
theorem beBytes_toNat_ofNat_beNat {n w : Nat} {bs : Bytes} (hlen : bs.length = w) (h : 256 ^ w ≤ 2 ^ n) :
    beBytes w (BitVec.ofNat n (beNat bs)).toNat = bs := by
  have hfits : beNat bs < 2 ^ n := Nat.lt_of_lt_of_le (hlen ▸ beNat_lt bs) h
  rw [BitVec.toNat_ofNat, Nat.mod_eq_of_lt hfits, ← hlen, beBytes_beNat]

/-- Decoding the encoding of a sample that fits its format gives the sample back (R184). -/
theorem decodeSample_encSample (hts : ts ≠ .unset) (hcr : cr ≠ .unset)
    (hrange : smp.currentRange.isSome = true ↔ cr = .present) (htime : smp.timestamp.isSome = true ↔ ts ≠ .off)
    (hms4 : ts = .ms4 → ∀ t, smp.timestamp = some t → t.toNat < 2 ^ 32) :
    decodeSample (encSample smp ts) ts cr = .ok smp := by
  obtain ⟨pointId, timestamp, range, re, im⟩ := smp
  have hwidth : range.toList.length = crWidth cr := by
    cases cr with
    | unset => exact absurd rfl hcr
    | absent => cases range <;> simp_all [crWidth]
    | present => cases range <;> simp_all [crWidth]
  have hstamp : (if ts = .off then none else some (BitVec.ofNat 40
      (beNat (beBytes (tsWidth ts) ((timestamp.map BitVec.toNat).getD 0))))) = timestamp := by
    cases timestamp with
    | none => simpa using htime
    | some time =>
      have hfits : time.toNat < 256 ^ tsWidth ts := by
        cases ts with
        | unset => exact absurd rfl hts
        | off => simp at htime
        | ms4 => simpa [tsWidth] using hms4 rfl time rfl
        | us5 => simpa [tsWidth] using time.isLt
      have hon : ts ≠ .off := by simpa using htime
      simp [hon, beNat_beBytes hfits]
  rw [encSample_eq, encodeSample, decodeSample_fields hts hcr (beBytes_length _ _) (beBytes_length _ _) hwidth
    (beBytes_length _ _) (beBytes_length _ _), hstamp]
  simp [beNat_beBytes_toNat]

/-- A payload that decodes is the encoding of its sample (R184). -/
theorem encSample_decodeSample (h : decodeSample p ts cr = .ok smp) : encSample smp ts = p := by
  obtain ⟨hts, hcr, hlen⟩ := length_of_decodeSample h
  obtain ⟨a, t, g, x, y, rfl, ha, ht, hg, hx, hy⟩ := exists_sample_fields hlen
  rw [decodeSample_fields hts hcr ha ht hg hx hy] at h
  cases h
  have hrange : g.head?.toList = g := by
    have : g.length ≤ 1 := by rw [hg]; cases cr <;> decide
    match g, this with
    | [], _ | [_], _ => rfl
  have hstamp : beBytes (tsWidth ts)
      (((if ts = .off then none else some (BitVec.ofNat 40 (beNat t))).map BitVec.toNat).getD 0) = t := by
    by_cases hoff : ts = .off
    · subst hoff
      exact (List.length_eq_zero_iff.mp ht).symm
    · have hwidth : 256 ^ tsWidth ts ≤ 2 ^ 40 := by cases ts <;> decide
      simpa [hoff] using beBytes_toNat_ofNat_beNat ht hwidth
  rw [encSample_eq, encodeSample, hstamp, hrange, beBytes_toNat_ofNat_beNat ha (by decide),
    beBytes_toNat_ofNat_beNat hx (by decide), beBytes_toNat_ofNat_beNat hy (by decide)]

end

/-- Settles O36: the two directions field by field, and the size by the fields it has room for. -/
theorem sampleCodecRoundTrip : Obligations.SampleCodecRoundTrip := by
  refine ⟨fun smp ts cr => decodeSample_encSample, fun p ts cr smp => encSample_decodeSample,
    fun p ts cr hts hcr => ⟨?_, ?_⟩⟩
  · rintro ⟨smp, h⟩
    obtain ⟨-, -, hlen⟩ := length_of_decodeSample h
    exact hlen
  · intro hlen
    obtain ⟨a, t, g, x, y, rfl, ha, ht, hg, hx, hy⟩ := exists_sample_fields hlen
    exact ⟨_, decodeSample_fields hts hcr ha ht hg hx hy⟩

end Sys2Proof.Machine
end

section
/-! PROOFS. The command set family (spec/44_commandset.md R160), the device's other messages: how a fresh cycle ends that
collects a fatal one, an acknowledgment, an informational one, or one whose code is in no table. -/

namespace Sys2Proof.Machine

section
variable {s : State} {code : Byte} {name : MsgName}

/-- A fatal message, alone, is its own error (R142 item 1). -/
theorem evaluate_fatal_alone {m : SysMsg} {e : Raised} (h : fatalError m.name = some e) :
    evaluate [m] = .fail e.kind e.info [m] :=
  evaluate_first_fatal (pre := []) (by simp) h

theorem fatalError_isFatal {e : Raised} (h : fatalError name = some e) : e.kind.isFatal = true := by
  cases name <;> cases h <;> rfl

/-- A fatal message ends the fresh cycle with its error and aborts the session, whatever runs (R142 item 1, R197). -/
theorem State.burst_sysFrame_fatal {e : Raised} (hfresh : s.FreshCycle) (hexpect : s.expect ≠ some 0x18)
    (hfits : 4 ≤ s.cfg.rxbufMax) (hname : s.cfg.msgTable.lookup code = name) (hfatal : fatalError name = some e) :
    s.burst (sysFrame code) = { s.collected (sysFrame code) with
      cl := Scratch.afterMessage ⟨code, name⟩, acqActive := false, abortPending := true,
      resultOut := s.resultOut ++ [.fail e.kind e.info [⟨code, name⟩]],
      errorOut := s.errorOut ++ [e], lastErr := ⟨e.kind.code, some e.info⟩ } := by
  rw [State.burst_sysFrame_fail hfresh hexpect hfits hname (evaluate_fatal_alone hfatal)]
  simp [fatalError_isFatal hfatal, State.collected]

/-- One message in a fresh cycle ends it with what the message evaluates to (R120, R141). -/
theorem State.burst_sysFrame_completes (hfresh : s.FreshCycle) (hexpect : s.expect ≠ some 0x18)
    (hfits : 4 ≤ s.cfg.rxbufMax) (hname : s.cfg.msgTable.lookup code = name) :
    ∃ u : State, u = { s with rxbuf := sysFrame code, idleCnt := s.idleThreshold } ∧
      u.classified = ⟨evaluate [⟨code, name⟩], [], Scratch.afterMessage ⟨code, name⟩⟩ ∧
      s.burst (sysFrame code) = u.completeCycle := by
  have ⟨_, _, hover, _, _⟩ := hfresh
  refine ⟨_, rfl, ?_, State.burst_fresh hfresh (by simp [sysFrame]) (by simpa [sysFrame] using hfits)⟩
  subst hname
  exact State.classified_sysFrame hover rfl hexpect

/-- An acknowledgment ends it with `Ack`, and starts the acquisition of a StartMeasurement cycle (R142 item 4, R197). -/
theorem State.burst_sysFrame_ack (hfresh : s.FreshCycle) (hexpect : s.expect ≠ some 0x18) (hfits : 4 ≤ s.cfg.rxbufMax)
    (hname : s.cfg.msgTable.lookup code = name) (heval : evaluate [⟨code, name⟩] = .ack [⟨code, name⟩]) :
    s.burst (sysFrame code) = { s.collected (sysFrame code) with
      cl := Scratch.afterMessage ⟨code, name⟩
      acqActive := s.acqActive || decide (s.cycleKind = .startCommand)
      resultOut := s.resultOut ++ [.ack [⟨code, name⟩]] } := by
  obtain ⟨u, rfl, hclass, hburst⟩ := State.burst_sysFrame_completes hfresh hexpect hfits hname
  rw [heval] at hclass
  rw [hburst, State.completeCycle_starts hclass (.inl ⟨_, rfl⟩)]
  simp [State.collected]

/-- A message of none of the other classes ends it with `Notice`, and nothing else (R142 item 5). -/
theorem State.burst_sysFrame_notice (hfresh : s.FreshCycle) (hexpect : s.expect ≠ some 0x18) (hfits : 4 ≤ s.cfg.rxbufMax)
    (hname : s.cfg.msgTable.lookup code = name) (heval : evaluate [⟨code, name⟩] = .notice [⟨code, name⟩]) :
    s.burst (sysFrame code) = { s.collected (sysFrame code) with
      cl := Scratch.afterMessage ⟨code, name⟩, resultOut := s.resultOut ++ [.notice [⟨code, name⟩]] } := by
  obtain ⟨u, rfl, hclass, hburst⟩ := State.burst_sysFrame_completes hfresh hexpect hfits hname
  rw [heval] at hclass
  rw [hburst, State.completeCycle_keeps hclass (.inr (.inr ⟨_, rfl⟩))]
  rfl

end

/-- Settles O19: a legal table gives the acknowledgment's code its name. -/
theorem commandAckEndsTheCycle : Obligations.CommandAckEndsTheCycle := by
  intro s hfresh hexpect hfits hlegal t
  obtain ⟨-, -, -, -, -, -, hack, -⟩ := MsgTable.lookup_code hlegal
  exact congrArg Host.Outcome.next (State.burst_sysFrame_ack hfresh hexpect hfits hack rfl)

/-- Settles O20: a legal table gives each code back its name, and `fatalError` gives the name its error. -/
theorem fatalMessageAbortsTheSession : Obligations.FatalMessageAbortsTheSession := by
  intro s hfresh hexpect hfits hlegal t
  obtain ⟨-, -, -, -, -, -, -, -, hcurrent, hvoltage, hholdup⟩ := MsgTable.lookup_code hlegal
  have aborts {code : Byte} {name : MsgName} {e : Raised} (hname : t.lookup code = name)
      (hfatal : fatalError name = some e) :=
    State.burst_sysFrame_fatal hfresh hexpect hfits hname hfatal
  exact ⟨congrArg Host.Outcome.next (aborts hcurrent rfl), congrArg Host.Outcome.next (aborts hvoltage rfl),
    congrArg Host.Outcome.next (aborts hholdup rfl)⟩

/-- Settles O22: the three names are of no other class. -/
theorem infoMessageIsANotice : Obligations.InfoMessageIsANotice := by
  intro s hfresh hexpect hfits hlegal t
  obtain ⟨-, -, hwakeUp, hsocket, -, -, -, hready, -⟩ := MsgTable.lookup_code hlegal
  have ends {code : Byte} {name : MsgName} (hname : t.lookup code = name)
      (heval : evaluate [⟨code, name⟩] = .notice [⟨code, name⟩]) :=
    State.burst_sysFrame_notice hfresh hexpect hfits hname heval
  exact ⟨congrArg Host.Outcome.next (ends hwakeUp rfl), congrArg Host.Outcome.next (ends hsocket rfl),
    congrArg Host.Outcome.next (ends hready rfl)⟩

/-- Settles O23: a code without a row of its own is looked up as unknown; one with a row is that row's bytes. -/
theorem genericMessageByItsCode : Obligations.GenericMessageByItsCode := by
  refine ⟨fun s code hfresh hexpect hfits hgeneric => ?_, fun s code => ?_⟩
  · have hends := State.burst_sysFrame_fail hfresh hexpect hfits (lookup_of_sysGeneric hgeneric)
      (kind := .malformedFrame) (info := .unknownSysCode code) rfl
    have hkept : ErrorKind.isFatal .malformedFrame = false := rfl
    simp only [hkept, Bool.not_false, Bool.and_true, Bool.or_false] at hends
    exact congrArg Host.Outcome.next hends
  · rw [exec_device_eq_burst s (sysOf_fromDevice s.cfg code), encode_sysOf]
    rfl

end Sys2Proof.Machine
end

section
/-! PROOFS. Received frames (spec/43_classifier.md R143, spec/45_measurement.md R198): a fresh cycle that collects frames of the
opcode it expects, one or many, and the sample rows among them. -/

namespace Sys2Proof.Machine

/-! ## Frames in a fresh cycle -/

section
variable {s : State} {e : Byte} {ps : List Bytes} {value : ReplyValue} {samples : List Sample} {err : Raised}

/-- Frames that fit the buffer end a fresh cycle with what their shape makes of them (R120, R143). -/
theorem State.burst_framesOf_completes (hfresh : s.FreshCycle) (hexpect : s.expect = some e) (hne : ps ≠ [])
    (hps : ∀ p ∈ ps, p.length ≤ 255) (hfits : (framesOf e ps).length ≤ s.cfg.rxbufMax) :
    ∃ u : State, u = { s with rxbuf := framesOf e ps, idleCnt := s.idleThreshold } ∧
      u.classified = finishFrames s.cfg s.tsMode s.crMode s.shape ps [] s.cl ∧
      s.burst (framesOf e ps) = u.completeCycle := by
  have ⟨_, _, hover, _, _⟩ := hfresh
  have hnonempty : framesOf e ps ≠ [] := by
    obtain ⟨p, ps, rfl⟩ := List.exists_cons_of_ne_nil hne
    simp
  refine ⟨_, rfl, ?_, State.burst_fresh hfresh hnonempty hfits⟩
  rw [State.classified, hover, hexpect]
  exact classify_framesOf _ _ _ _ e hne hps _ _

/-- A reply that holds is delivered, and its samples are emitted (R143, R198). -/
theorem State.burst_replyHolds (hfresh : s.FreshCycle) (hexpect : s.expect = some e) (hne : ps ≠ [])
    (hps : ∀ p ∈ ps, p.length ≤ 255) (hfits : (framesOf e ps).length ≤ s.cfg.rxbufMax)
    (h : ReplyHolds s.cfg s.tsMode s.crMode s.shape ps value samples) :
    s.burst (framesOf e ps) =
      { s.deliveredWith (framesOf e ps) value with sampleOut := s.sampleOut ++ samples } := by
  obtain ⟨u, rfl, hclass, hburst⟩ := State.burst_framesOf_completes hfresh hexpect hne hps hfits
  rw [finishFrames_data h] at hclass
  rw [hburst, State.completeCycle_starts hclass (.inr ⟨_, _, rfl⟩)]
  rfl

/-- A reply that breaks fails, and the samples before the break are emitted (R143, R198, D38). -/
theorem State.burst_replyBreaks (hfresh : s.FreshCycle) (hexpect : s.expect = some e) (hne : ps ≠ [])
    (hps : ∀ p ∈ ps, p.length ≤ 255) (hfits : (framesOf e ps).length ≤ s.cfg.rxbufMax)
    (h : ReplyBreaks s.cfg s.tsMode s.crMode s.shape ps err samples) :
    s.burst (framesOf e ps) =
      { s.failedWith (framesOf e ps) err.kind err.info with sampleOut := s.sampleOut ++ samples } := by
  obtain ⟨u, rfl, hclass, hburst⟩ := State.burst_framesOf_completes hfresh hexpect hne hps hfits
  obtain ⟨-, hkept⟩ := decodeValue_of_replyBreaks h
  rw [finishFrames_fail h] at hclass
  rw [hburst, State.completeCycle_fail hclass]
  simp [State.failedWith, State.collected, hkept]

end

/-! ## One frame -/

section
variable {s : State} {e : Byte} {p : Bytes} {shape : ReplyShape} {value : ReplyValue} {samples : List Sample}
  {err : Raised}

theorem framesOf_singleton (e : Byte) (p : Bytes) : framesOf e [p] = envelope e p :=
  List.append_nil _

theorem State.burst_envelope_holds (hfresh : s.FreshCycle) (hexpect : s.expect = some e) (hp : p.length ≤ 255)
    (hfits : p.length + 3 ≤ s.cfg.rxbufMax) (hshape : s.shape = shape)
    (h : ReplyHolds s.cfg s.tsMode s.crMode shape [p] value samples) :
    s.burst (envelope e p) = { s.deliveredWith (envelope e p) value with sampleOut := s.sampleOut ++ samples } := by
  subst hshape
  rw [← framesOf_singleton]
  exact State.burst_replyHolds hfresh hexpect (by simp) (by simpa using hp) (by simp; omega) h

theorem State.burst_envelope_breaks (hfresh : s.FreshCycle) (hexpect : s.expect = some e) (hp : p.length ≤ 255)
    (hfits : p.length + 3 ≤ s.cfg.rxbufMax) (hshape : s.shape = shape)
    (h : ReplyBreaks s.cfg s.tsMode s.crMode shape [p] err samples) :
    s.burst (envelope e p) =
      { s.failedWith (envelope e p) err.kind err.info with sampleOut := s.sampleOut ++ samples } := by
  subst hshape
  rw [← framesOf_singleton]
  exact State.burst_replyBreaks hfresh hexpect (by simp) (by simpa using hp) (by simp; omega) h

/-- Without samples nothing is added to `SAMPLE_OUT`. -/
theorem State.burst_envelope_value (hfresh : s.FreshCycle) (hexpect : s.expect = some e) (hp : p.length ≤ 255)
    (hfits : p.length + 3 ≤ s.cfg.rxbufMax) (hshape : s.shape = shape)
    (h : ReplyHolds s.cfg s.tsMode s.crMode shape [p] value []) :
    s.burst (envelope e p) = s.deliveredWith (envelope e p) value := by
  rw [State.burst_envelope_holds hfresh hexpect hp hfits hshape h, List.append_nil]
  rfl

theorem State.burst_envelope_error (hfresh : s.FreshCycle) (hexpect : s.expect = some e) (hp : p.length ≤ 255)
    (hfits : p.length + 3 ≤ s.cfg.rxbufMax) (hshape : s.shape = shape)
    (h : ReplyBreaks s.cfg s.tsMode s.crMode shape [p] err []) :
    s.burst (envelope e p) = s.failedWith (envelope e p) err.kind err.info := by
  rw [State.burst_envelope_breaks hfresh hexpect hp hfits hshape h, List.append_nil]
  rfl

/-- One frame is one sample (R198). -/
theorem replyHolds_sample {c : Config} {ts : TsMode} {cr : CrMode} {smp : Sample} (h : decodeSample p ts cr = .ok smp) :
    ReplyHolds c ts cr .samples [p] (.samples [smp]) [smp] :=
  ⟨by simp [h], rfl⟩

theorem replyBreaks_sample {c : Config} {ts : TsMode} {cr : CrMode} (h : decodeSample p ts cr = .error err) :
    ReplyBreaks c ts cr .samples [p] err [] :=
  ⟨[], p, [], rfl, rfl, h⟩

end

/-- Settles O26: each clause is a reply that holds or breaks under its shape. -/
theorem receivedFrameDeliversItsPayload : Obligations.ReceivedFrameDeliversItsPayload := by
  refine ⟨fun s e p hfresh hexpect hp hfits => ?_, fun s e ps rest hfresh hexpect hne hps hfits hscript => ?_⟩
  · intro burst
    have hjoined : [p].flatten = p := by simp
    have value {shape : ReplyShape} {v : ReplyValue} (hshape : s.shape = shape)
        (h : ReplyHolds s.cfg s.tsMode s.crMode shape [p] v []) :=
      congrArg (Host.Outcome.next (φ := Fault) (ρ := Refusal))
        (State.burst_envelope_value hfresh hexpect hp hfits hshape h)
    have error {shape : ReplyShape} {err : Raised} (hshape : s.shape = shape)
        (h : ReplyBreaks s.cfg s.tsMode s.crMode shape [p] err []) :=
      congrArg (Host.Outcome.next (φ := Fault) (ρ := Refusal))
        (State.burst_envelope_error hfresh hexpect hp hfits hshape h)
    refine ⟨fun hshape => ?_, fun hshape hsize => ?_, fun hshape h1 h2 h4 => ?_, fun fs hshape hfs => ?_,
      fun hshape hsize => ?_, fun v d1 d0 m0 m1 m2 m3 rest hshape hlayout hbytes => ?_, fun hshape hlayout hshort => ?_,
      fun smp hshape hsample => ?_, fun err hshape hsample => ?_⟩
    · exact value hshape ⟨by rw [hjoined], rfl⟩
    · exact value hshape ⟨by rwa [hjoined], by rw [hjoined], rfl⟩
    · exact error hshape ⟨by rwa [hjoined], by rwa [hjoined], by rwa [hjoined], rfl, rfl⟩
    · exact value hshape ⟨fs, by rw [hjoined, hfs], rfl, rfl⟩
    · exact error hshape ⟨by rwa [hjoined], rfl, rfl⟩
    · have hdecode := decodeDeviceId_default v d1 d0 m0 m1 m2 m3 rest
      exact value hshape ⟨by rw [hjoined, hlayout, hbytes, hdecode], rfl⟩
    · exact error hshape ⟨by rw [hjoined, hlayout]; exact decodeDeviceId_short hshort, rfl⟩
    · exact congrArg Host.Outcome.next
        (State.burst_envelope_holds hfresh hexpect hp hfits hshape (replyHolds_sample hsample))
    · exact error hshape (replyBreaks_sample hsample)
  · intro t
    have hstep : step s = .next (t.burst (framesOf e ps)) := step_device hscript
    refine ⟨fun value samples hholds => ?_, fun err samples hbreaks => ?_⟩
    · exact hstep.trans (congrArg Host.Outcome.next
        (State.burst_replyHolds (s := t) hfresh hexpect hne hps hfits hholds))
    · exact hstep.trans (congrArg Host.Outcome.next
        (State.burst_replyBreaks (s := t) hfresh hexpect hne hps hfits hbreaks))

/-! ## The sample rows -/

section
variable {s : State} {i : Instr} {smp : Sample}

@[simp] theorem envelope_length (op : Byte) (p : Bytes) : (envelope op p).length = p.length + 3 := by
  simp [envelope]

/-- A sample row is a frame of opcode 0xB8 whose payload takes sixteen bytes at most (R71). -/
theorem exists_sample_payload (h : isSampleRow i = true) (c : Config) :
    ∃ p : Bytes, encode c i = envelope 0xB8 p ∧ p.length ≤ 16 := by
  cases i with
  | sampleNoneAbsent | sampleNonePresent | sampleMs4Absent | sampleMs4Present | sampleUs5Absent | sampleUs5Present =>
    exact ⟨_, rfl, by simp⟩
  | _ => cases h

theorem fromDevice_of_isSampleRow (h : isSampleRow i = true) : i.fromDevice = true := by
  cases i with
  | sampleNoneAbsent | sampleNonePresent | sampleMs4Absent | sampleMs4Present | sampleUs5Absent | sampleUs5Present => rfl
  | _ => cases h

/-- A payload that decodes takes sixteen bytes at most (R181). -/
theorem length_le_of_decodeSample {p : Bytes} {ts : TsMode} {cr : CrMode} (h : decodeSample p ts cr = .ok smp) :
    p.length ≤ 16 := by
  obtain ⟨-, -, hlen⟩ := length_of_decodeSample h
  have hts : tsWidth ts ≤ 5 := by cases ts <;> decide
  have hcr : crWidth cr ≤ 1 := by cases cr <;> decide
  omega

/-- A row whose bytes are the encoding of a sample under the format in force is delivered as that sample (R180, R198). -/
theorem exec_sampleRow (hfresh : s.FreshCycle) (hexpect : s.expect = some 0xB8) (hshape : s.shape = .samples)
    (hroom : 19 ≤ s.cfg.rxbufMax) {ts : TsMode} {cr : CrMode} (hts : s.tsMode = ts) (hcr : s.crMode = cr)
    (hi : isSampleRow i = true) (hencode : encode s.cfg i = sampleFrame ts smp)
    (hdecode : decodeSample (encSample smp ts) ts cr = .ok smp) :
    exec i s = .next { s.deliveredWith (encode s.cfg i) (.samples [smp]) with sampleOut := s.sampleOut ++ [smp] } := by
  subst hts hcr
  have hlen := length_le_of_decodeSample hdecode
  rw [exec_device_eq_burst s (fromDevice_of_isSampleRow hi), hencode]
  exact congrArg Host.Outcome.next (State.burst_envelope_holds hfresh hexpect (by omega) (by omega) hshape
    (replyHolds_sample hdecode))

/-- A row whose payload does not decode fails with the decoder's error, and no sample is emitted (R182, R198). -/
theorem exec_sampleRow_fails (hfresh : s.FreshCycle) (hexpect : s.expect = some 0xB8) (hshape : s.shape = .samples)
    (hroom : 19 ≤ s.cfg.rxbufMax) (hi : isSampleRow i = true) {p : Bytes} (hencode : encode s.cfg i = envelope 0xB8 p)
    {err : Raised} (hdecode : decodeSample p s.tsMode s.crMode = .error err) :
    exec i s = .next (s.failedWith (encode s.cfg i) err.kind err.info) := by
  have hlen : p.length ≤ 16 := by
    obtain ⟨q, hq, hlen⟩ := exists_sample_payload hi s.cfg
    have hsize : (envelope 0xB8 p).length = (envelope 0xB8 q).length := by rw [← hencode, hq]
    simp only [envelope_length] at hsize
    omega
  rw [exec_device_eq_burst s (fromDevice_of_isSampleRow hi), hencode]
  exact congrArg Host.Outcome.next (State.burst_envelope_error hfresh hexpect (by omega) (by omega) hshape
    (replyBreaks_sample hdecode))

/-! ### The bytes of a timestamp -/

/-- The last of `w + 1` bytes is the number's low one. -/
theorem beBytes_concat (w x : Nat) (b : Byte) : beBytes (w + 1) (x * 256 + b.toNat) = beBytes w x ++ [b] := by
  have hb := b.isLt
  induction w with
  | zero =>
    have hlow : BitVec.ofNat 8 (x * 256 + b.toNat) = b := BitVec.eq_of_toNat_eq (by simp; omega)
    simp [beBytes, hlow]
  | succ w ih =>
    have hhigh : (x * 256 + b.toNat) / 256 ^ (w + 1) = x / 256 ^ w := by
      rw [Nat.pow_succ', ← Nat.div_div_eq_div_mul]
      congr 1
      omega
    rw [beBytes, hhigh, ih]
    rfl

/-- Five timestamp bytes are four and a range byte: the two 15-byte layouts share their words (R71, R182). -/
theorem beBytes_time_range (time : BitVec 32) (g : Byte) : beBytes 5 (time ++ g).toNat = beBytes 4 time.toNat ++ [g] := by
  have happend : (time ++ g).toNat = time.toNat * 256 + g.toNat := by
    rw [BitVec.toNat_append, ← Nat.shiftLeft_add_eq_or_of_lt g.isLt, Nat.shiftLeft_eq]
  rw [happend, beBytes_concat]

theorem encodeSample_us5_eq_ms4 (pid : BitVec 16) (time : BitVec 32) (g : Byte) (x y : F32) :
    encodeSample pid 5 (time ++ g).toNat none x y = encodeSample pid 4 time.toNat (some g) x y := by
  simp [encodeSample, beBytes_time_range]

/-! ### The sample of each timestamp mode -/

section
variable {cr : CrMode} {range : Option Byte} (hcr : cr ≠ .unset) (hrange : range.isSome = true ↔ cr = .present)
  (pid : BitVec 16) (x y : F32)
include hcr hrange

theorem decodeSample_off :
    decodeSample (encSample ⟨pid, none, range, x, y⟩ .off) .off cr = .ok ⟨pid, none, range, x, y⟩ :=
  decodeSample_encSample (by decide) hcr hrange (by simp) (by simp)

theorem decodeSample_ms4 (time : BitVec 32) :
    decodeSample (encSample ⟨pid, some (time.setWidth 40), range, x, y⟩ .ms4) .ms4 cr =
      .ok ⟨pid, some (time.setWidth 40), range, x, y⟩ := by
  refine decodeSample_encSample (by decide) hcr hrange (by simp) ?_
  intro _ t ht
  obtain rfl := Option.some.inj ht
  rw [toNat_timestamp_ms4]
  exact time.isLt

theorem decodeSample_us5 (time : BitVec 40) :
    decodeSample (encSample ⟨pid, some time, range, x, y⟩ .us5) .us5 cr = .ok ⟨pid, some time, range, x, y⟩ :=
  decodeSample_encSample (by decide) hcr hrange (by simp) (by simp)

end

/-- A sample of the four-byte mode encodes the low bits of its timestamp (R184). -/
theorem sampleFrame_ms4 (pid : BitVec 16) (time : BitVec 32) (range : Option Byte) (x y : F32) :
    sampleFrame .ms4 ⟨pid, some (time.setWidth 40), range, x, y⟩ =
      envelope 0xB8 (encodeSample pid 4 time.toNat range x y) := by
  rw [← toNat_timestamp_ms4 time]
  rfl

end

/-- Settles O24: each layout's bytes are the encoding of its sample under its own format, from which it decodes back. -/
theorem sampleRowDeliversItsSample : Obligations.SampleRowDeliversItsSample := by
  intro s p g t4 t5 x y hfresh hexpect hshape hroom
  have delivers {i : Instr} {smp : Sample} {ts : TsMode} {cr : CrMode} (hts : s.tsMode = ts) (hcr : s.crMode = cr) :=
    exec_sampleRow (i := i) (smp := smp) hfresh hexpect hshape hroom hts hcr
  refine ⟨fun hts hcr => ?_, fun hts hcr => ?_, fun hts hcr => ?_, fun hts hcr => ?_, fun hts hcr => ?_,
    fun hts hcr => ?_⟩
  · exact delivers hts hcr rfl rfl (decodeSample_off (by decide) (by simp) p x y)
  · exact delivers hts hcr rfl rfl (decodeSample_off (by decide) (by simp) p x y)
  · exact delivers hts hcr rfl (sampleFrame_ms4 p t4 _ x y).symm (decodeSample_ms4 (by decide) (by simp) p x y t4)
  · exact delivers hts hcr rfl (sampleFrame_ms4 p t4 _ x y).symm (decodeSample_ms4 (by decide) (by simp) p x y t4)
  · exact delivers hts hcr rfl rfl (decodeSample_us5 (by decide) (by simp) p x y t5)
  · exact delivers hts hcr rfl rfl (decodeSample_us5 (by decide) (by simp) p x y t5)

/-- Settles O25: the decoder's two tests fail the row; of the 15-byte pair the bytes are the other format's sample. -/
theorem sampleUnderAnotherFormatFails : Obligations.SampleUnderAnotherFormatFails := by
  intro s i hfresh hexpect hshape hroom
  have fails (hi : isSampleRow i = true) {p : Bytes} (hencode : encode s.cfg i = envelope 0xB8 p) {err : Raised} :=
    exec_sampleRow_fails (err := err) hfresh hexpect hshape hroom hi hencode
  have delivers {smp : Sample} {ts : TsMode} {cr : CrMode} (hts : s.tsMode = ts) (hcr : s.crMode = cr) :=
    exec_sampleRow (i := i) (smp := smp) hfresh hexpect hshape hroom hts hcr
  refine ⟨fun hi hunset => ?_, fun hi hts hcr hlen => ?_, fun p time g x y hts hcr hrow => ?_,
    fun p time g x y hts hcr hrow => ?_⟩
  · obtain ⟨p, hp, -⟩ := exists_sample_payload hi s.cfg
    exact fails hi hp (decodeSample_formatUnset hunset p)
  · obtain ⟨p, hp, -⟩ := exists_sample_payload hi s.cfg
    have hsize : p.length ≠ 2 + tsWidth s.tsMode + crWidth s.crMode + 8 := by
      rw [hp, envelope_length] at hlen
      omega
    exact fails hi hp (decodeSample_sampleLength hts hcr hsize)
  · have hencode : encode s.cfg i = sampleFrame .us5 ⟨p, some (time ++ g), none, x, y⟩ := by
      rw [hrow, encode, ← encodeSample_us5_eq_ms4]
      rfl
    exact delivers hts hcr (hrow ▸ rfl) hencode (decodeSample_us5 (by decide) (by simp) p x y _)
  · have hencode : encode s.cfg i = sampleFrame .ms4 ⟨p, some (time.setWidth 40), some g, x, y⟩ := by
      rw [hrow, encode, encodeSample_us5_eq_ms4, sampleFrame_ms4]
    exact delivers hts hcr (hrow ▸ rfl) hencode (decodeSample_ms4 (by decide) (by simp) p x y time)

end Sys2Proof.Machine
end
